-- ==== Sys2Proof/Word.lean ====
section
/-! DEFINITION. The two word sizes of the block: 32-bit host words (R48, R71) and 8-bit bytes (R7, R70). -/

namespace Sys2Proof

/-- A host word: CMD, STATUS, FRAME_LO and FRAME_HI are 32 bits wide (R47 to R49). -/
abbrev Word := BitVec 32

/-- A byte: the unit of the frame buffer, of the digit table and of the wire (R7). -/
abbrev Byte := BitVec 8

end Sys2Proof
end

