-- ==== Sys2Proof/Syntax.lean ====
section
/-! DEFINITION. The commands of the block, one constructor per row of spec/opcode_table.json (R104), with their
operands already read out of the word (R103); and the assembler's pseudo-instructions (R108). -/

namespace Sys2Proof

/-- The two open-drain lines (R7, R31). Operand `L`: 0 selects DIO and 1 selects CLK (R103). -/
inductive Line
  | dio
  | clk
deriving DecidableEq, Repr

/-- The two delays (R11, R143). Operand `K`: 0 selects `T_HALF` and 1 selects `T_SETTLE` (R103). -/
inductive DelayKind
  | half
  | settle
deriving DecidableEq, Repr

/-- The fourteen commands (R104). -/
inductive Instr
  | release (l : Line)
  | pull (l : Line)
  | read (l : Line)
  | delay (k : DelayKind)
  | validate
  | start
  | stop
  | writeByte (b : Byte)
  | sendCommand (b : Byte)
  /-- `VAL` is the signed integer `int(IMM[15:0])` (R103); WellFormed bounds it. -/
  | encodeNumeric (v : Int)
  | encodeError
  | writeFrame
  | init
  | shutdown
deriving DecidableEq, Repr

/-- The pseudo-instructions of R108. They have no encoding of their own. -/
inductive Pseudo
  | show (v : Int)
  | showError
  | setDio (bit : Bool)
deriving DecidableEq, Repr

end Sys2Proof
end

