-- ==== Sys2Proof/Config.lean ====
section
/-! DEFINITION. What the builder of the block fixes (the parameters of R6) and the free values of the environment
(R36, R37, R74). Every constant here is opaque: no proof can see what it is. -/

namespace Sys2Proof

/-- The digit table `DIG[0..9]` (R45, R120). The patterns of 0, 2 and 5 are fixed by the source; the other seven are
a parameter, and the field defaults are the defaults of R120 (from general knowledge, not in source). A pattern has
seven bits because bit 7 of every entry is 0 (R45). D16: all ten entries are distinct. -/
structure DigTable where
  d1 : BitVec 7 := 0x06
  d3 : BitVec 7 := 0x4F
  d4 : BitVec 7 := 0x66
  d6 : BitVec 7 := 0x7D
  d7 : BitVec 7 := 0x07
  d8 : BitVec 7 := 0x7F
  d9 : BitVec 7 := 0x6F
  distinct : [0x3F, d1, 0x5B, d3, d4, 0x6D, d6, d7, d8, d9].Nodup := by decide
deriving DecidableEq, Repr, Inhabited

/-- The timing parameters (R6, R283, R312), in nanoseconds and hertz. The field defaults are the nominal values of R6
where it gives one (T_HALF, T_SETTLE); the others only show that such a record exists (the spec leaves them OPEN). The two inequalities are R283's `N_HALF ≥ ceil(T_HALF · F_CLK)` and its like for `N_SETTLE`. No
rule of the untimed model depends on any of them (R330). -/
structure Timing where
  tHalfNs : Nat := 50000
  tSettleNs : Nat := 1000000
  tHalfMaxNs : Nat := 100000
  fClkHz : Nat := 1000000
  nHalf : Nat := 50
  nSettle : Nat := 1000
  halfLongEnough : tHalfNs * fClkHz ≤ nHalf * 1000000000 := by decide
  settleLongEnough : tSettleNs * fClkHz ≤ nSettle * 1000000000 := by decide
deriving DecidableEq, Repr, Inhabited

/-- The digit table the block was built with (parameter `DIG` of R6; log entry 6). -/
opaque Config.dig : DigTable

/-- The data-command byte, parameter `DATA_CMD` of R6 and R126 (OPEN; the spec's default is 0x40; log entry 7). -/
opaque Config.dataCmd : Byte

/-- The display-on command byte, parameter `DISPON_CMD` of R6 and R126 (OPEN, no default; log entry 7). -/
opaque Config.disponCmd : Byte

/-- The timing parameters (log entry 8). -/
opaque Config.timing : Timing

/-- Parameter `DIO_PIN` of R6 (OPEN; no rule depends on it; log entry 8). -/
opaque Config.dioPin : Nat

/-- Parameter `CLK_PIN` of R6 (OPEN; no rule depends on it; log entry 8). -/
opaque Config.clkPin : Nat

/-- Parameter `PORT_BASE` of R78 (the platform's choice; no rule depends on it; log entry 8). -/
opaque Config.portBase : Nat

/-- FREE VALUE (R36): what `Sample` answers at the n-th draw when the run's data names no answer; true is HIGH (log
entry 3). -/
opaque Config.sample : Nat → Bool

/-- FREE VALUE (R37): what `BackendInit` answers at the n-th draw when the run's data names no answer (log entry 4). -/
opaque Config.backendInit : Nat → Bool

/-- FREE VALUE (R74): what the n-th host read shows in the fields that have no fixed value (log entry 5). -/
opaque Config.busyRead : Nat → Word

end Sys2Proof
end

