-- ==== Sys2Proof/WellFormed.lean ====
section
/-! DEFINITION. Which commands have a word. Line, delay and byte operands are bounded by their types; the signed
operand of ENCODE_NUMERIC is bounded here (R103: -32768 to 32767; R107: an operand outside its range produces no
word). -/

namespace Sys2Proof

/-- R103: `VAL` is a 16-bit two's-complement value. -/
def fitsVal (v : Int) : Bool := decide (-32768 ≤ v) && decide (v ≤ 32767)

/-- The operands of the command are in the range its format encodes (R102, R103). -/
def Instr.wellFormed : Instr → Bool
  | .release _ => true
  | .pull _ => true
  | .read _ => true
  | .delay _ => true
  | .validate => true
  | .start => true
  | .stop => true
  | .writeByte _ => true
  | .sendCommand _ => true
  | .encodeNumeric v => fitsVal v
  | .encodeError => true
  | .writeFrame => true
  | .init => true
  | .shutdown => true

end Sys2Proof
end

