-- ==== Sys2Proof/Decode.lean ====
section
/-! DEFINITION. The command word: the decoder, total on all 2^32 words (R105), written from the match and mask table of
R104 and the operand rules of R103; the names of what makes a word illegal (R106); and the encoder, written from the
formats of R102. -/

namespace Sys2Proof

/-- Why a word matches no row (R106), in the order of the word's fields from the top. -/
inductive Illegal
  /-- `OPC = 0x0` or `OPC = 0xF`. -/
  | opcode
  /-- A non-zero bit in `RSV1`, bits 27:25. -/
  | reserved1
  /-- `L = 1` outside format L. -/
  | lineSelect
  /-- A non-zero bit in `RSV2`, bits 23:16. -/
  | reserved2
  /-- `IMM` is not 0 in formats L and N, or has bits above the operand in formats K and B. -/
  | immediate
deriving DecidableEq, Repr

/-- One row of the opcode map of R104: a word `w` selects the row when `w & mask = match`. -/
structure Row where
  pattern : Word
  mask : Word
  operands : Word → Instr

/-- R103: `line(L)`, with `L` bit 24. -/
def lineField (w : Word) : Line := if w.getLsbD 24 then .clk else .dio

/-- R103: `K`, bit 0. -/
def delayField (w : Word) : DelayKind := if w.getLsbD 0 then .settle else .half

/-- R103: `BYTE = IMM[7:0]`, taken unsigned. -/
def byteField (w : Word) : Byte := w.extractLsb' 0 8

/-- R103: `VAL = int(IMM[15:0])`. -/
def valField (w : Word) : Int := (w.extractLsb' 0 16).toInt

/-- The opcode map of R104, in its order. -/
def opcodeRows : List Row :=
  [ ⟨0x10000000, 0xFEFFFFFF, fun w => .release (lineField w)⟩,
    ⟨0x20000000, 0xFEFFFFFF, fun w => .pull (lineField w)⟩,
    ⟨0x30000000, 0xFEFFFFFF, fun w => .read (lineField w)⟩,
    ⟨0x40000000, 0xFFFFFFFE, fun w => .delay (delayField w)⟩,
    ⟨0x50000000, 0xFFFFFFFF, fun _ => .validate⟩,
    ⟨0x60000000, 0xFFFFFFFF, fun _ => .start⟩,
    ⟨0x70000000, 0xFFFFFFFF, fun _ => .stop⟩,
    ⟨0x80000000, 0xFFFFFF00, fun w => .writeByte (byteField w)⟩,
    ⟨0x90000000, 0xFFFFFF00, fun w => .sendCommand (byteField w)⟩,
    ⟨0xA0000000, 0xFFFF0000, fun w => .encodeNumeric (valField w)⟩,
    ⟨0xB0000000, 0xFFFFFFFF, fun _ => .encodeError⟩,
    ⟨0xC0000000, 0xFFFFFFFF, fun _ => .writeFrame⟩,
    ⟨0xD0000000, 0xFFFFFFFF, fun _ => .init⟩,
    ⟨0xE0000000, 0xFFFFFFFF, fun _ => .shutdown⟩ ]

/-- R104: the word selects the row. -/
def Row.selects (r : Row) (w : Word) : Bool := (w &&& r.mask) == r.pattern

/-- R106: the name of what is wrong with a word that selects no row. -/
def illegalReason (w : Word) : Illegal :=
  let opc := w.extractLsb' 28 4
  if opc = 0x0 ∨ opc = 0xF then .opcode
  else if w.extractLsb' 25 3 ≠ 0 then .reserved1
  else if w.getLsbD 24 ∧ 3 < opc.toNat then .lineSelect
  else if w.extractLsb' 16 8 ≠ 0 then .reserved2
  else .immediate

/-- R105: decoding is total; a word that selects no row is ILLEGAL. -/
def decode (w : Word) : Except Illegal Instr :=
  match opcodeRows.find? (·.selects w) with
  | some r => .ok (r.operands w)
  | none => .error (illegalReason w)

/-- The instruction read from a table row's `nbits` bits `w`; every bit of the word above `nbits` is 0. -/
def decodeTableWord (nbits w : Nat) : Option Instr :=
  if nbits ≤ 32 then (decode (BitVec.ofNat 32 (w % 2 ^ nbits))).toOption else none

/-- The five formats of R102, each from `OPC` and its operand. -/
def formatL (opc : BitVec 4) (l : Line) : Word :=
  opc ++ 0#3 ++ (match l with | .dio => 0#1 | .clk => 1#1) ++ 0#24
@[inherit_doc formatL] def formatK (opc : BitVec 4) (k : DelayKind) : Word :=
  opc ++ 0#27 ++ (match k with | .half => 0#1 | .settle => 1#1)
@[inherit_doc formatL] def formatB (opc : BitVec 4) (b : Byte) : Word := opc ++ 0#20 ++ b
@[inherit_doc formatL] def formatV (opc : BitVec 4) (v : Int) : Word := opc ++ 0#12 ++ BitVec.ofInt 16 v
@[inherit_doc formatL] def formatN (opc : BitVec 4) : Word := opc ++ 0#28

/-- The word of a well-formed command (R102, R104). -/
def encode : Instr → Word
  | .release l => formatL 0x1 l
  | .pull l => formatL 0x2 l
  | .read l => formatL 0x3 l
  | .delay k => formatK 0x4 k
  | .validate => formatN 0x5
  | .start => formatN 0x6
  | .stop => formatN 0x7
  | .writeByte b => formatB 0x8 b
  | .sendCommand b => formatB 0x9 b
  | .encodeNumeric v => formatV 0xA v
  | .encodeError => formatN 0xB
  | .writeFrame => formatN 0xC
  | .init => formatN 0xD
  | .shutdown => formatN 0xE

end Sys2Proof
end

