-- ==== Sys2Proof/Machine/State.lean ====
section
/-! DEFINITION. The machine's state as plain data: every piece of state of R30, the inputs of the other agents (R80),
and the state after reset (R52). -/

namespace Sys2Proof.Machine

/-- R31: the direction of a line, Released = 0 and Pulled = 1. -/
inductive Dir
  | released
  | pulled
deriving DecidableEq, Repr

/-- R43: the lifecycle state. -/
inductive Lifecycle
  | uninit
  | ready
  | failed
  | off
deriving DecidableEq, Repr

/-- R44: the kind of frame `FB` holds. -/
inductive FrameKind
  | none
  | numeric
  | overflow
  | error
deriving DecidableEq, Repr

/-- R270: the result codes. Codes 10 to 15 are never written, so they have no name. -/
inductive Err
  | ok
  | illegal
  | notReady
  | init
  | config
  | protocol
  | noFrame
  | lifecycle
  | readPulled
  | session
deriving DecidableEq, Repr

/-- R44, R70: the five bytes of the frame buffer. -/
structure Frame where
  b0 : Byte := 0x00
  b1 : Byte := 0x00
  b2 : Byte := 0x00
  b3 : Byte := 0x00
  b4 : Byte := 0x00
deriving DecidableEq, Repr

/-- R35: the events of the wire trace. A level `true` is HIGH. -/
inductive Event
  | rel (l : Line)
  | pul (l : Line)
  | dly (k : DelayKind)
  | smp (l : Line) (level : Bool)
  | bInit (ok : Bool)
  | bDeinit
deriving DecidableEq, Repr

/-- One action of a command's pseudocode that never branches. The first group are the micro-operations of R11, each of
which appends one event; the second group writes registers and appends none. -/
inductive Uop
  /-- `REL(l)`. -/
  | rel (l : Line)
  /-- `PUL(l)`. -/
  | pul (l : Line)
  /-- `DLY(k)`. -/
  | dly (k : DelayKind)
  /-- `SETDIO(SR[0])` (R172). -/
  | setDio
  /-- `SMP(l)`, its result to `RDATA` (R142). -/
  | smpRead (l : Line)
  /-- `SMP(l)`, its result to `CFG_DIO_LOW` or `CFG_CLK_LOW` (R160). -/
  | smpCfg (l : Line)
  /-- `SMP(DIO)`, its result to `ACK` (R172). -/
  | smpAck
  /-- `BDEINIT()`. -/
  | bDeinit
  /-- `SR <- b; BC <- 0` (R172). -/
  | load (b : Byte)
  /-- `SR <- MemRead(FB, k, 1); BC <- 0` (R230, R172). -/
  | loadFrame (k : Fin 5)
  /-- `SR <- SR >> 1; BC <- BC + 1` (R172). -/
  | shift
  /-- `SESSION <- b`. -/
  | setSession (b : Bool)
  /-- `LC <- c`. -/
  | setLc (c : Lifecycle)
  /-- `FAIL_IDX <- k`. -/
  | setFailIdx (k : BitVec 3)
  /-- The writing half of `raise E_<e>` (R12): `ERR` takes the code; nothing stands after it in an expansion. -/
  | setErr (e : Err)
deriving DecidableEq, Repr

/-- What a command's expansion tests before it goes on. -/
inductive Cond
  /-- `ACK = 1`: the byte just sent was acknowledged (R230). -/
  | acked
  /-- VBODY returned true: neither line read LOW (R160). -/
  | linesHigh
deriving DecidableEq, Repr

/-- One entry of a command's expansion (R38): an action, or a place where the pseudocode branches to its other path. -/
inductive Item
  | op (u : Uop)
  /-- Go on if the condition holds; otherwise the path is `other`, and the command ends after it. -/
  | guard (c : Cond) (other : List Uop)
  /-- `ok <- BINIT()`: go on if the backend came up; otherwise the path is `other` (R250). -/
  | backendInit (other : List Uop)
deriving DecidableEq, Repr

/-- One access of the host to the port (R71, R72): a byte offset in the port's sixteen bytes and a width in bits. -/
inductive Access
  | read (offset : BitVec 4) (width : Nat)
  | write (offset : BitVec 4) (width : Nat) (data : Word)
deriving DecidableEq, Repr

/-- R80: which agent acts next, and what it does. -/
inductive Turn
  /-- The host accesses the port. -/
  | access (a : Access)
  /-- The platform drives RST: true asserts it, false releases it (R300). -/
  | rst (level : Bool)
  /-- The sequencer performs the next entry of the current command's expansion. -/
  | micro
  /-- The sequencer runs the current command to its end (R38: "one atomic step"). -/
  | finish
deriving DecidableEq, Repr

/-- The state of the block (R30), and the data that stands for the other agents. `BUSY` is not stored: it is 1 exactly
while `cur` is some word (R38). -/
structure State where
  /-- `DIR[DIO]` (R31). -/
  dirDio : Dir
  /-- `DIR[CLK]` (R31). -/
  dirClk : Dir
  /-- `SR` (R39). -/
  sr : BitVec 8
  /-- `BC` (R39). -/
  bc : BitVec 4
  /-- `CUR` (R38). -/
  cur : Option Word
  /-- `USTEP` (R38). -/
  ustep : Nat
  /-- `ACK` (R40). -/
  ack : Bool
  /-- `RDATA` (R41). -/
  rdata : Bool
  /-- `SESSION` (R42). -/
  session : Bool
  /-- `LC` (R43). -/
  lc : Lifecycle
  /-- `FB[0..4]` (R44). -/
  fb : Frame
  /-- `FKIND` (R44). -/
  fkind : FrameKind
  /-- `FLEN` (R44). -/
  flen : BitVec 3
  /-- `ERR` (R46, R270). -/
  err : Err
  /-- `FAIL_IDX` (R46). -/
  failIdx : BitVec 3
  /-- `CFG_DIO_LOW` (R46). -/
  cfgDioLow : Bool
  /-- `CFG_CLK_LOW` (R46). -/
  cfgClkLow : Bool
  /-- `OVR` (R46). -/
  ovr : Bool
  /-- `TRACE` (R35), oldest event first. -/
  trace : List Event
  /-- The level of the input RST (R300): true while the platform asserts it. -/
  rst : Bool
  /-- DESIGN CHOICE (log entry 13): the rest of `CUR`'s expansion, empty while the command has not begun. -/
  todo : List Item
  /-- DESIGN CHOICE (log entry 3): the coming answers of `Sample`; after them the answers are `Config.sample`. -/
  samples : List Bool
  /-- DESIGN CHOICE (log entry 4): the coming answers of `BackendInit`; after them `Config.backendInit`. -/
  inits : List Bool
  /-- DESIGN CHOICE (log entries 3, 4): how many oracle answers were drawn; the index of the free values. -/
  draws : Nat
  /-- DESIGN CHOICE (log entry 2): who acts next; the sequencer's `finish` when the list is empty. -/
  turns : List Turn
  /-- DESIGN CHOICE (log entry 14): what the host's reads returned, oldest first: register address and word. -/
  readLog : List (BitVec 2 × Word)
deriving DecidableEq, Repr

/-- The faults of the model. -/
inductive Fault
  /-- Raised by WRITE_FRAME alone, when `FLEN` is above 5: the frame buffer has no such index (R70). No run reaches it
  (R44: `FLEN` is 0, 4 or 5). Safe: the model stops (log entry 11). -/
  | frameIndex
deriving DecidableEq, Repr

/-- The refusals of the model. -/
inductive Refusal
  /-- Raised by an arm of exec whose instruction has no meaning yet. Safe: the model stops. -/
  | notModelled (mnemonic : String)
  /-- Raised by a host access of a width other than 32 bits or at an offset that is not a multiple of 4: "A model refuses
  it" (R72). Safe: the model stops (log entry 9). -/
  | portAccess
deriving DecidableEq, Repr

/-- R52: every field of the block at its reset value; nothing is scheduled, drawn or read yet. -/
def State.reset : State where
  dirDio := .released
  dirClk := .released
  sr := 0x00
  bc := 0
  cur := none
  ustep := 0
  ack := false
  rdata := false
  session := false
  lc := .uninit
  fb := {}
  fkind := .none
  flen := 0
  err := .ok
  failIdx := 0
  cfgDioLow := false
  cfgClkLow := false
  ovr := false
  trace := []
  rst := false
  todo := []
  samples := []
  inits := []
  draws := 0
  turns := []
  readLog := []

end Sys2Proof.Machine
end

