-- ==== Sys2Proof/Machine/Ops.lean ====
section
/-! DEFINITION. The named operations over the state: the lines and their pins, the trace, the environment's oracles, the
micro-operations (R11), running an expansion, accepting a command, raising an error (R12, R272 to R274), ending a
command (R82), and block reset (R300). -/

namespace Sys2Proof.Machine

/-! ### Lines -/

/-- `DIR[l]` (R31). -/
def State.dir (s : State) : Line → Dir
  | .dio => s.dirDio
  | .clk => s.dirClk

/-- `DIR[l] <- d` (R31). -/
def State.setDir (s : State) : Line → Dir → State
  | .dio, d => { s with dirDio := d }
  | .clk, d => { s with dirClk := d }

/-- The pin `l_oe` (R33): the output is enabled exactly when the line is Pulled. -/
def State.lineOe (s : State) (l : Line) : Bool := s.dir l == .pulled

/-- The pin `l_o` (R32, R33): the output data is the constant 0 in every state. -/
def State.lineOut (_ : State) (_ : Line) : Bool := false

/-! ### Frame buffer -/

/-- `FB[k]`, which is `MemRead(FB, k, 1)` (R70). -/
def Frame.get (f : Frame) (k : Fin 5) : Byte :=
  match k with
  | 0 => f.b0
  | 1 => f.b1
  | 2 => f.b2
  | 3 => f.b3
  | 4 => f.b4

/-- The indices 0 to n-1 of the frame buffer (R230: `k < n`). -/
def frameIndices (n : Nat) : List (Fin 5) := [0, 1, 2, 3, 4].take n

/-! ### Trace and oracles -/

/-- Every micro-operation appends exactly one event (R11, R35) and advances `USTEP` by one (R38). -/
def State.emit (s : State) (e : Event) : State := { s with trace := s.trace ++ [e], ustep := s.ustep + 1 }

/-- The k-th answer `Sample` will give from here on (R36): from the run's data if it names one, else a free value. -/
def State.answer (s : State) (k : Nat) : Bool := s.samples[k]?.getD (Config.sample (s.draws + k))

/-- One answer of `Sample` is drawn. -/
def State.drawSample (s : State) : State := { s with samples := s.samples.tail, draws := s.draws + 1 }

/-- The answer `BackendInit` will give next (R37): from the run's data if it names one, else a free value. -/
def State.initAnswer (s : State) : Bool := s.inits.head?.getD (Config.backendInit s.draws)

/-- The answer of `BackendInit` is drawn. -/
def State.drawInit (s : State) : State := { s with inits := s.inits.tail, draws := s.draws + 1 }

/-! ### Micro-operations and register transfers -/

/-- `REL(l)` (R11). -/
def State.rel (s : State) (l : Line) : State := (s.setDir l .released).emit (.rel l)

/-- `PUL(l)` (R11). -/
def State.pul (s : State) (l : Line) : State := (s.setDir l .pulled).emit (.pul l)

/-- `SETDIO(bit)` (R11): `REL(DIO)` if the bit is 1, else `PUL(DIO)`, written as one update. -/
def State.setDio (s : State) (bit : Bool) : State :=
  (s.setDir .dio (if bit then .released else .pulled)).emit (if bit then .rel .dio else .pul .dio)

/-- `SMP(l)` (R11): draw the answer and append it to the trace. -/
def State.smp (s : State) (l : Line) : State := s.drawSample.emit (.smp l (s.answer 0))

/-- R160: `CFG_DIO_LOW <- (d = 0)`, `CFG_CLK_LOW <- (c = 0)`. -/
def State.setCfgLow (s : State) : Line → Bool → State
  | .dio, low => { s with cfgDioLow := low }
  | .clk, low => { s with cfgClkLow := low }

/-- What one action does. A sample's result is written in the micro-operation that takes it (log entry 10). -/
def Uop.perform (u : Uop) (s : State) : State :=
  match u with
  | .rel l => s.rel l
  | .pul l => s.pul l
  | .dly k => s.emit (.dly k)
  | .setDio => s.setDio (s.sr.getLsbD 0)
  | .smpRead l => { s.smp l with rdata := s.answer 0 }
  | .smpCfg l => (s.smp l).setCfgLow l (!s.answer 0)
  | .smpAck => { s.smp .dio with ack := !s.answer 0 }
  | .bDeinit => s.emit .bDeinit
  | .load b => { s with sr := b, bc := 0 }
  | .loadFrame k => { s with sr := s.fb.get k, bc := 0 }
  | .shift => { s with sr := s.sr >>> 1, bc := s.bc + 1 }
  | .setSession b => { s with session := b }
  | .setLc c => { s with lc := c }
  | .setFailIdx k => { s with failIdx := k }
  | .setErr e => { s with err := e }

/-- The condition holds in the state. -/
def Cond.holds (c : Cond) (s : State) : Bool :=
  match c with
  | .acked => s.ack
  | .linesHigh => !s.cfgDioLow && !s.cfgClkLow

/-- `ok <- BINIT()` (R11): draw the answer and append it to the trace. -/
def State.bInit (s : State) : State := s.drawInit.emit (.bInit s.initAnswer)

/-- Actions in order. -/
def runUops (us : List Uop) (s : State) : State := us.foldl (fun s u => u.perform s) s

/-- An expansion in order (R81), to the end of the path the answers select. -/
def run : List Item → State → State
  | [], s => s
  | .op u :: rest, s => run rest (u.perform s)
  | .guard c other :: rest, s => if c.holds s then run rest s else runUops other s
  | .backendInit other :: rest, s => if s.initAnswer then run rest s.bInit else runUops other s.bInit

/-- One entry of an expansion, with what is left to do after it. -/
def Item.perform (i : Item) (rest : List Item) (s : State) : State :=
  match i with
  | .op u => { u.perform s with todo := rest }
  | .guard c other => { s with todo := if c.holds s then rest else other.map .op }
  | .backendInit other => { s.bInit with todo := if s.initAnswer then rest else other.map .op }

/-! ### A command from its acceptance to its end -/

/-- R273: an accepted command first sets `ERR <- OK`; `USTEP` starts at 0 (R38, R82). -/
def State.accept (s : State) : State := { s with err := .ok, ustep := 0, todo := [] }

/-- `raise E_<e>` before any effect (R272): `ERR` takes the code and nothing is left to do. -/
def State.raise (s : State) (e : Err) : State := { s with err := e, todo := [] }

/-- R82: the command ends: `CUR <- none`, `USTEP <- 0`, `BUSY <- 0`. -/
def State.endCommand (s : State) : State := { s with cur := none, ustep := 0, todo := [] }

/-- Everything left of the command, and its end. -/
def State.complete (s : State) : State := (run s.todo s).endCommand

/-- R106, R272: a word that decodes to ILLEGAL writes `ERR` and ends. -/
def State.rejectWord (s : State) : State := (s.accept.raise .illegal).endCommand

/-! ### Block reset -/

/-- R300: every piece of the block's state takes its reset value (R52), whatever the block was doing. What stands for
the other agents goes on. -/
def State.resetBlock (s : State) (level : Bool) : State :=
  { State.reset with
    rst := level
    samples := s.samples
    inits := s.inits
    draws := s.draws
    turns := s.turns
    readLog := s.readLog }

end Sys2Proof.Machine
end

