-- ==== Sys2Proof/Machine/Operands.lean ====
section
/-! DEFINITION. The commands' shared parts: the pre-execution checks (R275), the bodies of micro-operations (R160, R170
to R173), the byte constants and the digit table (R120 to R125), and the decoding of a port access (R71, R72). -/

namespace Sys2Proof

/-! ### Byte constants and the digit table -/

/-- `ADDR_CMD`, the address byte that opens every frame (R125). -/
def addrCmd : Byte := 0xC0

/-- `SEG_MINUS` and `SEG_BLANK`, the sign bytes (R122). -/
def segMinus : Byte := 0x40
@[inherit_doc segMinus] def segBlank : Byte := 0x00

/-- `DP`, the decimal-point bit (R123). -/
def segDp : Byte := 0x80

/-- The glyph bytes of R124. `GLYPH_R` is 0x60, which is normative (I9). -/
def glyphO : Byte := 0x3F
@[inherit_doc glyphO] def glyphF : Byte := 0x71
@[inherit_doc glyphO] def glyphL : Byte := 0x38
@[inherit_doc glyphO] def glyphE : Byte := 0x79
@[inherit_doc glyphO] def glyphR : Byte := 0x60

/-- R120: the seven segment bits of a decimal digit. -/
def DigTable.pattern (t : DigTable) (d : Fin 10) : BitVec 7 :=
  match d with
  | 0 => 0x3F
  | 1 => t.d1
  | 2 => 0x5B
  | 3 => t.d3
  | 4 => t.d4
  | 5 => 0x6D
  | 6 => t.d6
  | 7 => t.d7
  | 8 => t.d8
  | 9 => t.d9

/-- `DIG[d]` as a byte: bit 7 is 0 (R45). `MemRead(DIG, d, 1)` of R70. -/
def DigTable.seg (t : DigTable) (d : Fin 10) : Byte := 0#1 ++ t.pattern d

end Sys2Proof

namespace Sys2Proof.Machine

/-! ### Pre-execution checks -/

/-- The checks a command makes after decoding (R275). -/
inductive Check
  /-- `LC = READY`, else E_NOT_READY. -/
  | ready
  /-- `LC = c`, else E_LIFECYCLE. -/
  | lifecycle (c : Lifecycle)
  /-- `SESSION = b`, else E_SESSION. -/
  | session (b : Bool)
  /-- `FKIND ≠ NONE`, else E_NO_FRAME. -/
  | framePresent
  /-- `DIR[l] = Released`, else E_READ_PULLED. -/
  | released (l : Line)
deriving DecidableEq, Repr

/-- The check passes in the state. -/
def Check.passes (c : Check) (s : State) : Bool :=
  match c with
  | .ready => s.lc == .ready
  | .lifecycle x => s.lc == x
  | .session b => s.session == b
  | .framePresent => s.fkind != .none
  | .released l => s.dir l == .released

/-- The code the check raises when it fails (R270). -/
def Check.code : Check → Err
  | .ready => .notReady
  | .lifecycle _ => .lifecycle
  | .session _ => .session
  | .framePresent => .noFrame
  | .released _ => .readPulled

/-- R275: the first check that fails is the one reported. -/
def firstError : List Check → State → Option Err
  | [], _ => none
  | c :: cs, s => if c.passes s then firstError cs s else some c.code

/-- Accept a command, make its checks in order, and take up its expansion (R38, R272, R273). -/
def issueWith (checks : List Check) (body : List Item) (s : State) : State :=
  match firstError checks s with
  | some e => s.accept.raise e
  | none => { s.accept with todo := body }

/-! ### Bodies -/

/-- Actions as entries of an expansion. -/
def items (us : List Uop) : List Item := us.map .op

/-- `VBODY` (R160). Its result is `Cond.linesHigh`. -/
def vBody : List Uop := [.rel .dio, .rel .clk, .dly .settle, .smpCfg .dio, .smpCfg .clk]

/-- `STARTB` (R170). -/
def startB : List Uop :=
  [.rel .dio, .rel .clk, .dly .half, .pul .dio, .dly .half, .pul .clk, .setSession true]

/-- `STOPB` (R171), with the delay the spec inserts after the first action (D18). -/
def stopB : List Uop :=
  [.pul .dio, .dly .half, .rel .clk, .dly .half, .rel .dio, .dly .half, .setSession false]

/-- One turn of `WBODY`'s loop (R172): a data bit and its clock pulse. -/
def bitB : List Uop := [.setDio, .dly .half, .rel .clk, .dly .half, .pul .clk, .shift]

/-- The ACK phase of `WBODY` (R172): the ninth clock pulse. -/
def ackB : List Uop := [.rel .dio, .dly .half, .rel .clk, .dly .half, .smpAck, .pul .clk]

/-- `WBODY` after `SR` is loaded (R172): the loop runs while `BC < 8`, which is eight times from 0. -/
def shiftOutB : List Uop := (List.replicate 8 bitB).flatten ++ ackB

/-- `WBODY(b)` (R172). -/
def wBody (b : Byte) : List Uop := .load b :: shiftOutB

/-- `WBODY(MemRead(FB, k, 1))` (R230). -/
def wBodyFrame (k : Fin 5) : List Uop := .loadFrame k :: shiftOutB

/-- `SBODY(c)` (R173). -/
def sBody (c : Byte) : List Uop := startB ++ wBody c ++ stopB

/-! ### Digits -/

/-- A number as a decimal digit. The encoder applies it only to numbers from 0 to 9 (R200). -/
def toDigit (n : Nat) : Fin 10 := ⟨n % 10, Nat.mod_lt n (by decide)⟩

/-! ### Port accesses -/

/-- The port's registers (R71). -/
inductive PortReg
  | cmd
  | status
  | frameLo
  | frameHi
deriving DecidableEq, Repr

/-- R71: the register at word address `A`. All four addresses are mapped. -/
def portReg (a : BitVec 2) : PortReg :=
  if a = 0 then .cmd else if a = 1 then .status else if a = 2 then .frameLo else .frameHi

/-- R72: only a 32-bit access at a multiple of 4 has a meaning; its word address `A` is the offset over 4 (R71). -/
def portAddress (offset : BitVec 4) (width : Nat) : Option (BitVec 2) :=
  if width = 32 ∧ offset.extractLsb' 0 2 = 0 then some (offset.extractLsb' 2 2) else none

end Sys2Proof.Machine
end

