-- ==== Sys2Proof/Machine/Encoder.lean ====
section
/-! DEFINITION. The segment encoder: ENCODE_NUMERIC and ENCODE_ERROR (R199 to R205). Neither makes a check after
decoding, touches a line or appends an event. -/

namespace Sys2Proof.Machine

/-- R200: the sign byte of a value. -/
def signByte (v : Int) : Byte := if v < 0 then segMinus else segBlank

/-- R200: the frame of a value whose digits are shown: `h`, `t`, `u` are the hundreds, tens and units of `m`. -/
def digitFrame (dig : DigTable) (v : Int) (m : Nat) : Frame where
  b0 := addrCmd
  b1 := signByte v
  b2 := dig.seg (toDigit (m / 10 / 10))
  b3 := dig.seg (toDigit (m / 10 % 10)) ||| segDp
  b4 := dig.seg (toDigit (m % 10))

/-- R200: the overflow frame keeps the sign byte of the value (C1). -/
def overflowFrame (v : Int) : Frame where
  b0 := addrCmd
  b1 := signByte v
  b2 := glyphO
  b3 := glyphF
  b4 := glyphL

/-- R200: the frame of `v` and its kind, with `m` the exact magnitude (D23) and overflow when the hundreds exceed 9. -/
def numericFrame (dig : DigTable) (v : Int) : Frame × FrameKind :=
  let m := v.natAbs
  if 9 < m / 10 / 10 then (overflowFrame v, .overflow) else (digitFrame dig v m, .numeric)

/-- R205: the error frame; `FB[4]` is cleared (D12). -/
def errorFrame : Frame where
  b0 := addrCmd
  b1 := glyphE
  b2 := glyphR
  b3 := glyphR
  b4 := 0x00

/-- The writes of an encode command: the five bytes, `FKIND` and `FLEN` (R44). -/
def State.setFrame (s : State) (f : Frame) (k : FrameKind) (n : BitVec 3) : State :=
  { s with fb := f, fkind := k, flen := n }

/-- R200. -/
def issueEncodeNumeric (v : Int) (s : State) : State :=
  (issueWith [] [] s).setFrame (numericFrame Config.dig v).1 (numericFrame Config.dig v).2 5

/-- R200: build the frame for a signed value in tenths. -/
def execEncodeNumeric (v : Int) (s : State) : Host.Outcome State Fault Refusal := .next (issueEncodeNumeric v s).complete

/-- R205. -/
def issueEncodeError (s : State) : State := (issueWith [] [] s).setFrame errorFrame .error 4

/-- R205: build the error frame. -/
def execEncodeError (s : State) : Host.Outcome State Fault Refusal := .next (issueEncodeError s).complete

end Sys2Proof.Machine
end

