-- ==== Sys2Proof/Machine/Gpio.lean ====
section
/-! DEFINITION. The GPIO open-drain emulator: RELEASE, PULL, READ, DELAY (R139 to R143). -/

namespace Sys2Proof.Machine

/-- R140. -/
def issueRelease (l : Line) (s : State) : State := issueWith [.ready] (items [.rel l]) s

/-- R140: put a line in high-impedance mode. -/
def execRelease (l : Line) (s : State) : Host.Outcome State Fault Refusal := .next (issueRelease l s).complete

/-- R141. -/
def issuePull (l : Line) (s : State) : State := issueWith [.ready] (items [.pul l]) s

/-- R141: put a line in output mode, driving LOW. -/
def execPull (l : Line) (s : State) : Host.Outcome State Fault Refusal := .next (issuePull l s).complete

/-- R142. -/
def issueRead (l : Line) (s : State) : State := issueWith [.ready, .released l] (items [.smpRead l]) s

/-- R142: sample the level of a released line. -/
def execRead (l : Line) (s : State) : Host.Outcome State Fault Refusal := .next (issueRead l s).complete

/-- R143. -/
def issueDelay (k : DelayKind) (s : State) : State := issueWith [.ready] (items [.dly k]) s

/-- R143: wait one fixed delay. -/
def execDelay (k : DelayKind) (s : State) : Host.Outcome State Fault Refusal := .next (issueDelay k s).complete

end Sys2Proof.Machine
end

