-- ==== Sys2Proof/Machine/Lifecycle.lean ====
section
/-! DEFINITION. The lifecycle controller: INIT and SHUTDOWN (R250, R255). -/

namespace Sys2Proof.Machine

/-- R250: the whole expansion of INIT, with its two failing paths. -/
def initBody : List Item :=
  [.backendInit [.setLc .failed, .setErr .init]] ++ items vBody ++
    [.guard .linesHigh [.bDeinit, .setLc .failed, .setErr .config], .op (.setLc .ready)]

/-- R250. -/
def issueInit (s : State) : State := issueWith [.lifecycle .uninit] initBody s

/-- R250: bring up the GPIO backend and validate the lines. -/
def execInit (s : State) : Host.Outcome State Fault Refusal := .next (issueInit s).complete

/-- R255: the whole expansion of SHUTDOWN. -/
def shutdownBody : List Item := items [.rel .dio, .rel .clk, .bDeinit, .setSession false, .setLc .off]

/-- R255: SHUTDOWN does not check `SESSION`. -/
def issueShutdown (s : State) : State := issueWith [.lifecycle .ready] shutdownBody s

/-- R255: release both lines and deinitialise the backend. -/
def execShutdown (s : State) : Host.Outcome State Fault Refusal := .next (issueShutdown s).complete

end Sys2Proof.Machine
end

