-- ==== Sys2Proof/Machine/Protocol.lean ====
section
/-! DEFINITION. The protocol state machine and byte serializer: START, STOP, WRITE_BYTE, SEND_COMMAND (R174 to R177). -/

namespace Sys2Proof.Machine

/-- R174. -/
def issueStart (s : State) : State := issueWith [.ready, .session false] (items startB) s

/-- R174: open a protocol session. -/
def execStart (s : State) : Host.Outcome State Fault Refusal := .next (issueStart s).complete

/-- R175: STOP does not check `SESSION`. -/
def issueStop (s : State) : State := issueWith [.ready] (items stopB) s

/-- R175: close a protocol session. -/
def execStop (s : State) : Host.Outcome State Fault Refusal := .next (issueStop s).complete

/-- R176. -/
def issueWriteByte (b : Byte) (s : State) : State := issueWith [.ready, .session true] (items (wBody b)) s

/-- R176: send one byte and sample its ACK. -/
def execWriteByte (b : Byte) (s : State) : Host.Outcome State Fault Refusal := .next (issueWriteByte b s).complete

/-- R177. -/
def issueSendCommand (b : Byte) (s : State) : State := issueWith [.ready, .session false] (items (sBody b)) s

/-- R177: send one command byte in its own bracket. -/
def execSendCommand (b : Byte) (s : State) : Host.Outcome State Fault Refusal := .next (issueSendCommand b s).complete

end Sys2Proof.Machine
end

