-- ==== Sys2Proof/Machine/Session.lean ====
section
/-! DEFINITION. The display-session sequencer: WRITE_FRAME (R230). -/

namespace Sys2Proof.Machine

/-- R230: the path after a NACK on byte `k`: leave the bus idle, report the index, raise E_PROTOCOL. -/
def nackPath (k : Fin 5) : List Uop := stopB ++ [.setFailIdx (BitVec.ofNat 3 k.val), .setErr .protocol]

/-- R230: byte `k` of the data burst and the test of its ACK. -/
def burstByte (k : Fin 5) : List Item := items (wBodyFrame k) ++ [.guard .acked (nackPath k)]

/-- R230: the whole expansion for a frame of `n` bytes. -/
def writeFrameBody (n : Nat) : List Item :=
  items (sBody Config.dataCmd ++ startB) ++ (frameIndices n).flatMap burstByte ++
    items (stopB ++ sBody Config.disponCmd ++ [.setFailIdx 0])

/-- R230. A length above 5 names a byte `FB` does not have (R70): the model stops (log entry 11). -/
def issueWriteFrame (s : State) : Host.Outcome State Fault Refusal :=
  match firstError [.ready, .session false, .framePresent] s with
  | some e => .next (s.accept.raise e)
  | none =>
    if s.flen.toNat ≤ 5 then .next { s.accept with todo := writeFrameBody s.flen.toNat } else .fault .frameIndex

/-- R230: write the frame in `FB` to the display. -/
def execWriteFrame (s : State) : Host.Outcome State Fault Refusal :=
  match issueWriteFrame s with
  | .next t => .next t.complete
  | .fault f => .fault f
  | .refused r => .refused r

end Sys2Proof.Machine
end

