-- ==== Sys2Proof/Machine/Validator.lean ====
section
/-! DEFINITION. The line validator: VALIDATE (R160, R161). -/

namespace Sys2Proof.Machine

/-- R161: `VBODY`, then E_CONFIG if a line read LOW. -/
def issueValidate (s : State) : State :=
  issueWith [.ready, .session false] (items vBody ++ [.guard .linesHigh [.setErr .config]]) s

/-- R161: check the pull-ups on both lines. -/
def execValidate (s : State) : Host.Outcome State Fault Refusal := .next (issueValidate s).complete

end Sys2Proof.Machine
end

