-- ==== Sys2Proof/Machine/Dispatch.lean ====
section
/-! DEFINITION. One arm per command: the whole command, from its acceptance to its end, as one atomic step (R38). -/

namespace Sys2Proof.Machine

def exec (i : Instr) (s : State) : Host.Outcome State Fault Refusal :=
  match i with
  | .release l => Sys2Proof.Machine.execRelease l s
  | .pull l => Sys2Proof.Machine.execPull l s
  | .read l => Sys2Proof.Machine.execRead l s
  | .delay k => Sys2Proof.Machine.execDelay k s
  | .validate => Sys2Proof.Machine.execValidate s
  | .start => Sys2Proof.Machine.execStart s
  | .stop => Sys2Proof.Machine.execStop s
  | .writeByte b => Sys2Proof.Machine.execWriteByte b s
  | .sendCommand b => Sys2Proof.Machine.execSendCommand b s
  | .encodeNumeric v => Sys2Proof.Machine.execEncodeNumeric v s
  | .encodeError => Sys2Proof.Machine.execEncodeError s
  | .writeFrame => Sys2Proof.Machine.execWriteFrame s
  | .init => Sys2Proof.Machine.execInit s
  | .shutdown => Sys2Proof.Machine.execShutdown s

end Sys2Proof.Machine
end

