-- ==== Sys2Proof/Machine/Flags.lean ====
section
/-! DEFINITION. The flags and report fields as the host reads them: the codes of the fields (R31, R43, R44, R270), the
STATUS word (R47), the FRAME words (R49), and what a read returns in each situation (R74). -/

namespace Sys2Proof.Machine

/-- R43: the 2-bit code of `LC`. -/
def Lifecycle.code : Lifecycle → BitVec 2
  | .uninit => 0
  | .ready => 1
  | .failed => 2
  | .off => 3

/-- R44: the 2-bit code of `FKIND`. -/
def FrameKind.code : FrameKind → BitVec 2
  | .none => 0
  | .numeric => 1
  | .overflow => 2
  | .error => 3

/-- R270: the 4-bit result code. -/
def Err.code : Err → BitVec 4
  | .ok => 0
  | .illegal => 1
  | .notReady => 2
  | .init => 3
  | .config => 4
  | .protocol => 5
  | .noFrame => 6
  | .lifecycle => 7
  | .readPulled => 8
  | .session => 9

/-- R31: Released = 0 and Pulled = 1. -/
def Dir.bit : Dir → BitVec 1
  | .released => 0
  | .pulled => 1

/-- R38: `BUSY` is 1 exactly while `CUR ≠ none`. -/
def State.busy (s : State) : Bool := s.cur.isSome

/-- R47: STATUS, from bit 31 down to bit 0. -/
def statusWord (s : State) : Word :=
  0#9 ++ s.flen ++ s.fkind.code ++ BitVec.ofBool s.cfgClkLow ++ BitVec.ofBool s.cfgDioLow ++ BitVec.ofBool s.ovr ++
    s.failIdx ++ s.err.code ++ s.lc.code ++ s.dirClk.bit ++ s.dirDio.bit ++ BitVec.ofBool s.session ++
    BitVec.ofBool s.rdata ++ BitVec.ofBool s.ack ++ BitVec.ofBool s.busy

/-- R49: FRAME_LO, `FB[0]` in its least significant byte. -/
def frameLo (s : State) : Word := s.fb.b3 ++ s.fb.b2 ++ s.fb.b1 ++ s.fb.b0

/-- R49: FRAME_HI, `FB[4]` in its least significant byte. -/
def frameHi (s : State) : Word := 0#24 ++ s.fb.b4

/-- A read while the fields are stable (R47 to R49, R74). -/
def readStable (s : State) : PortReg → Word
  | .cmd => 0
  | .status => statusWord s
  | .frameLo => frameLo s
  | .frameHi => frameHi s

/-- A read while `BUSY = 1` (R74): STATUS gives only `BUSY = 1` and `OVR`, and its reserved bits 0 (R47); every other
field, and both FRAME registers' bytes, are bits of the free word `f`. -/
def readBusy (s : State) (f : Word) : PortReg → Word
  | .cmd => 0
  | .status => 0#9 ++ f.extractLsb' 16 7 ++ BitVec.ofBool s.ovr ++ f.extractLsb' 1 14 ++ 1#1
  | .frameLo => f
  | .frameHi => 0#24 ++ f.extractLsb' 0 8

/-- A read while RST is asserted (log entry 12): the spec fixes only that both lines are Released (R300) and the reserved
bits (R47); the rest is bits of the free word `f`. -/
def readInReset (f : Word) : PortReg → Word
  | .cmd => 0
  | .status => 0#9 ++ f.extractLsb' 6 17 ++ 0#2 ++ f.extractLsb' 0 4
  | .frameLo => f
  | .frameHi => 0#24 ++ f.extractLsb' 0 8

/-- What a host read of the register returns. -/
def State.readReg (s : State) (r : PortReg) : Word :=
  if s.rst then readInReset (Config.busyRead s.readLog.length) r
  else if s.busy then readBusy s (Config.busyRead s.readLog.length) r
  else readStable s r

end Sys2Proof.Machine
end

