-- ==== Sys2Proof/Machine/Sequencer.lean ====
section
/-! DEFINITION. The turns of the agents (R80): the sequencer's (to the end of the command, or one entry of its
expansion), the host's port accesses (R71 to R74, R82), and the platform's RST (R300). -/

namespace Sys2Proof.Machine

/-! ### The sequencer -/

/-- R38: take up the command: accept it, make its checks, and leave its expansion to do. -/
def issue (i : Instr) (s : State) : Host.Outcome State Fault Refusal :=
  match i with
  | .release l => .next (issueRelease l s)
  | .pull l => .next (issuePull l s)
  | .read l => .next (issueRead l s)
  | .delay k => .next (issueDelay k s)
  | .validate => .next (issueValidate s)
  | .start => .next (issueStart s)
  | .stop => .next (issueStop s)
  | .writeByte b => .next (issueWriteByte b s)
  | .sendCommand b => .next (issueSendCommand b s)
  | .encodeNumeric v => .next (issueEncodeNumeric v s)
  | .encodeError => .next (issueEncodeError s)
  | .writeFrame => issueWriteFrame s
  | .init => .next (issueInit s)
  | .shutdown => .next (issueShutdown s)

/-- The command ends as soon as nothing of its expansion is left (R82). -/
def State.endIfDone (s : State) : State := if s.todo = [] then s.endCommand else s

/-- The sequencer runs the current command to its end; idle, or held in reset, it does nothing. A command that no
`micro` turn has begun is decoded and executed whole. -/
def finishTurn (s : State) : Host.Outcome State Fault Refusal :=
  if s.rst then .next s
  else
    match s.cur with
    | none => .next s
    | some w =>
      match s.todo with
      | [] =>
        match decode w with
        | .ok i => exec i s
        | .error _ => .next s.rejectWord
      | _ :: _ => .next s.complete

/-- The sequencer performs one entry of the current command's expansion; the first one also decodes and checks (log
entry 2). -/
def microTurn (s : State) : Host.Outcome State Fault Refusal :=
  if s.rst then .next s
  else
    match s.cur with
    | none => .next s
    | some w =>
      match s.todo with
      | [] =>
        match decode w with
        | .ok i =>
          match issue i s with
          | .next t => .next t.endIfDone
          | .fault f => .fault f
          | .refused r => .refused r
        | .error _ => .next s.rejectWord
      | item :: rest => .next (item.perform rest s).endIfDone

/-! ### The host -/

/-- R82: a CMD write starts a command while `BUSY = 0`; while `BUSY = 1` it is dropped and sets `OVR`. R300: while RST is
asserted the block accepts none. -/
def writeCmd (w : Word) (s : State) : State :=
  if s.rst then s
  else if s.busy then { s with ovr := true }
  else { s with cur := some w, ustep := 0, todo := [] }

/-- R73: only a CMD write has an effect. -/
def writeReg (r : PortReg) (w : Word) (s : State) : State :=
  match r with
  | .cmd => writeCmd w s
  | .status => s
  | .frameLo => s
  | .frameHi => s

/-- One access of the host (R71 to R73). -/
def accessTurn (a : Access) (s : State) : Host.Outcome State Fault Refusal :=
  match a with
  | .read offset width =>
    match portAddress offset width with
    | some a => .next { s with readLog := s.readLog ++ [(a, s.readReg (portReg a))] }
    | none => .refused .portAccess
  | .write offset width data =>
    match portAddress offset width with
    | some a => .next (writeReg (portReg a) data s)
    | none => .refused .portAccess

/-! ### The platform -/

/-- R300: asserting RST resets the block; when RST is released, every piece of state has its reset value. Releasing an
RST that is not asserted is no edge. -/
def rstTurn (level : Bool) (s : State) : State :=
  if level then s.resetBlock true else if s.rst then s.resetBlock false else s

/-- What the agent whose turn it is does. -/
def Turn.perform (t : Turn) (s : State) : Host.Outcome State Fault Refusal :=
  match t with
  | .access a => accessTurn a s
  | .rst level => .next (rstTurn level s)
  | .micro => microTurn s
  | .finish => finishTurn s

/-- The instruction stored where the step fetches it: latched into `CUR`, as the host's CMD write leaves it (R82), with
the sequencer's turn next and RST released (log entry 1). -/
def latchWord (s : State) (nbits w : Nat) : State :=
  { s with
    cur := some (BitVec.ofNat 32 (w % 2 ^ nbits))
    ustep := 0
    todo := []
    rst := false
    turns := .finish :: s.turns }

end Sys2Proof.Machine
end

