-- ==== Sys2Proof/Machine/Step.lean ====
section
/-! DEFINITION. One step of the machine: the next turn of `turns`, or the sequencer's when none is listed. -/

namespace Sys2Proof.Machine

def step (s : State) : Host.Outcome State Fault Refusal :=
  match s.turns with
  | [] => finishTurn s
  | t :: ts => t.perform { s with turns := ts }

/-- The state with the given instruction as the next the machine runs. -/
def State.withFetchWord (s : State) (nbits w : Nat) : State := latchWord s nbits w

end Sys2Proof.Machine
end

