-- ==== Sys2Proof/Machine/Assembler.lean ====
section
/-! DEFINITION. The assembler's text form (R107) and its pseudo-instructions (R108). A line is a list of characters; what
R107 leaves open about its lexical form is log entry 19. -/

namespace Sys2Proof.Machine

/-- R108: what each pseudo-instruction expands to. -/
def pseudoExpand : Pseudo → List Instr
  | .show v => [.encodeNumeric v, .writeFrame]
  | .showError => [.encodeError, .writeFrame]
  | .setDio true => [.release .dio]
  | .setDio false => [.pull .dio]

/-- R107: comments start with `;`; mnemonics and line names are case-insensitive. -/
def cleanLine (cs : List Char) : List Char := (cs.takeWhile (· != ';')).map Char.toUpper

/-- The words of a line, which stand between spaces and tabs. -/
def lineWords (cs : List Char) : List (List Char) :=
  (cs.splitOnP (fun c => c == ' ' || c == '\t')).filter (fun w => !w.isEmpty)

/-- The value of a digit character in radix up to 16, after `cleanLine`. -/
def digitValue (c : Char) : Option Nat :=
  if '0' ≤ c ∧ c ≤ '9' then some (c.toNat - 48) else if 'A' ≤ c ∧ c ≤ 'F' then some (c.toNat - 55) else none

/-- A non-empty run of digits of the radix. -/
def parseDigits (radix : Nat) (cs : List Char) : Option Nat :=
  if cs.isEmpty then none
  else cs.foldlM (fun n c => (digitValue c).bind fun d => if d < radix then some (n * radix + d) else none) 0

/-- A number in decimal or as `0x..` (R107). -/
def parseUnsigned : List Char → Option Nat
  | '0' :: 'X' :: cs => parseDigits 16 cs
  | cs => parseDigits 10 cs

/-- R107: `b` is an integer from 0 to 255. -/
def parseByte (cs : List Char) : Option Byte :=
  (parseUnsigned cs).bind fun n => if n ≤ 255 then some (BitVec.ofNat 8 n) else none

/-- R107: `v` is a decimal integer from -32768 to 32767, or a 16-bit pattern taken as its two's-complement value. -/
def parseVal : List Char → Option Int
  | '-' :: cs => (parseDigits 10 cs).bind fun n => if n ≤ 32768 then some (-(n : Int)) else none
  | '0' :: 'X' :: cs =>
    (parseDigits 16 cs).bind fun n => if n ≤ 0xFFFF then some (BitVec.ofNat 16 n).toInt else none
  | cs => (parseDigits 10 cs).bind fun n => if n ≤ 32767 then some (n : Int) else none

/-- R107: `DIO` and `CLK`. -/
def parseLine (cs : List Char) : Option Line :=
  if cs = "DIO".toList then some .dio else if cs = "CLK".toList then some .clk else none

/-- R107: `H` and `S`. -/
def parseDelay (cs : List Char) : Option DelayKind :=
  if cs = "H".toList then some .half else if cs = "S".toList then some .settle else none

/-- R108: the operand of `SETDIO`. -/
def parseBit (cs : List Char) : Option Bool :=
  if cs = "1".toList then some true else if cs = "0".toList then some false else none

/-- The mnemonics without an operand (R107, format N; R108). -/
def plainMnemonics : List (List Char × List Instr) :=
  [ ("VALIDATE".toList, [.validate]), ("START".toList, [.start]), ("STOP".toList, [.stop]),
    ("ENCODE_ERROR".toList, [.encodeError]), ("WRITE_FRAME".toList, [.writeFrame]), ("INIT".toList, [.init]),
    ("SHUTDOWN".toList, [.shutdown]), ("SHOW_ERROR".toList, pseudoExpand .showError) ]

/-- The mnemonics with an operand (R107, formats L, K, B and V; R108). -/
def operandMnemonics : List (List Char × (List Char → Option (List Instr))) :=
  [ ("RELEASE".toList, fun a => (parseLine a).map fun l => [.release l]),
    ("PULL".toList, fun a => (parseLine a).map fun l => [.pull l]),
    ("READ".toList, fun a => (parseLine a).map fun l => [.read l]),
    ("DELAY".toList, fun a => (parseDelay a).map fun k => [.delay k]),
    ("WRITE_BYTE".toList, fun a => (parseByte a).map fun b => [.writeByte b]),
    ("SEND_COMMAND".toList, fun a => (parseByte a).map fun b => [.sendCommand b]),
    ("ENCODE_NUMERIC".toList, fun a => (parseVal a).map fun v => [.encodeNumeric v]),
    ("SHOW".toList, fun a => (parseVal a).map fun v => pseudoExpand (.show v)),
    ("SETDIO".toList, fun a => (parseBit a).map fun b => pseudoExpand (.setDio b)) ]

/-- R107: one command per line, a mnemonic followed by at most one operand. A line without words gives no command; a line
that is an assembly error gives `none`. -/
def assembleLine (cs : List Char) : Option (List Instr) :=
  match lineWords (cleanLine cs) with
  | [] => some []
  | [m] => plainMnemonics.lookup m
  | [m, a] => (operandMnemonics.lookup m).bind fun f => f a
  | _ :: _ :: _ :: _ => none

/-- The words a line stands for (R107, R108). -/
def assembleWords (cs : List Char) : Option (List Word) := (assembleLine cs).map fun is => is.map encode

end Sys2Proof.Machine
end

