-- ==== Sys2Proof/Safety.lean ====
section
/-! DEFINITION. The terms the claims use: what the wires see of a trace (R13, R33 to R36, R178), the event sequences of
the bodies written out (R160, R170 to R173), the check order as a table of cases (R275), the write table (R51), and the
invariants (R53). Nothing here is used by the machine. -/

namespace Sys2Proof.Machine

/-! ### The pins, as the events drive them -/

/-- The directions of the two lines, which are all the block shows on its pins (R33). -/
structure Pins where
  dio : Dir
  clk : Dir
deriving DecidableEq, Repr

/-- Both lines Released: the idle condition (R42). -/
def Pins.idle : Pins := ⟨.released, .released⟩

/-- The direction of one line. -/
def Pins.get (p : Pins) : Line → Dir
  | .dio => p.dio
  | .clk => p.clk

/-- One line takes a direction. -/
def Pins.set (p : Pins) : Line → Dir → Pins
  | .dio, d => { p with dio := d }
  | .clk, d => { p with clk := d }

/-- The pins of a state. -/
def State.pins (s : State) : Pins := ⟨s.dirDio, s.dirClk⟩

/-- What an event does to the pins (R35): only `Rel` and `Pul` do anything. -/
def Event.drive (e : Event) (p : Pins) : Pins :=
  match e with
  | .rel l => p.set l .released
  | .pul l => p.set l .pulled
  | .dly _ => p
  | .smp _ _ => p
  | .bInit _ => p
  | .bDeinit => p

/-- The pins after a run of events (R35: "a function of the Rel and Pul events so far"). -/
def replay (p : Pins) (es : List Event) : Pins := es.foldl (fun p e => e.drive p) p

/-- R13: the line on which the event is a transition, if it is one. -/
def Event.transition (e : Event) (p : Pins) : Option Line :=
  match e with
  | .rel l => if p.get l = .pulled then some l else none
  | .pul l => if p.get l = .released then some l else none
  | .dly _ => none
  | .smp _ _ => none
  | .bInit _ => none
  | .bDeinit => none

/-- R178(b): between any two transitions of one line at least one `Dly(H)` stands. The flags say, for each line, whether
a transition of it would be allowed now. -/
def delaySeparated (dioFree clkFree : Bool) (p : Pins) : List Event → Bool
  | [] => true
  | e :: es =>
    if e = .dly .half then delaySeparated true true p es
    else
      match e.transition p with
      | some .dio => dioFree && delaySeparated false clkFree (e.drive p) es
      | some .clk => clkFree && delaySeparated dioFree false (e.drive p) es
      | none => delaySeparated dioFree clkFree (e.drive p) es

/-- R36: every sample is taken on a line that is Released at that moment. -/
def samplesReleased (p : Pins) : List Event → Bool
  | [] => true
  | .smp l _ :: es => (p.get l == .released) && samplesReleased p es
  | .rel l :: es => samplesReleased (p.set l .released) es
  | .pul l :: es => samplesReleased (p.set l .pulled) es
  | .dly _ :: es => samplesReleased p es
  | .bInit _ :: es => samplesReleased p es
  | .bDeinit :: es => samplesReleased p es

/-- What a receiver on the wires can tell apart: a START condition (DIO falls while CLK is HIGH), a STOP condition (DIO
rises while CLK is HIGH), and a clock pulse with the level the block lets DIO have in it (R14, R75). -/
inductive WireItem
  | start
  | stop
  | clocked (dioReleased : Bool)
deriving DecidableEq, Repr

/-- The items a run of events puts on the wires. A DIO transition while CLK is LOW, and a falling CLK, give none. -/
def wireItems (p : Pins) : List Event → List WireItem
  | [] => []
  | e :: es =>
    match e.transition p with
    | some .dio =>
      if p.clk = .released then (if p.dio = .released then .start else .stop) :: wireItems (e.drive p) es
      else wireItems (e.drive p) es
    | some .clk =>
      if p.clk = .pulled then .clocked (p.dio == .released) :: wireItems (e.drive p) es
      else wireItems (e.drive p) es
    | none => wireItems (e.drive p) es

/-- R75: a byte on the wire is its eight bits, least significant first, and a ninth clock pulse with DIO released. -/
def byteItems (b : Byte) : List WireItem :=
  (List.range 8).map (fun i => .clocked (b.getLsbD i)) ++ [.clocked true]

/-- R127, R170, R171: a START…STOP bracket from the idle condition. STOPB releases CLK once with DIO Pulled before the
STOP condition. -/
def bracketItems (bs : List Byte) : List WireItem := .start :: bs.flatMap byteItems ++ [.clocked false, .stop]

/-- R34: the level of a line, from its direction, its pull-up and its peer. -/
def busLevel (pullUpFitted peerPulls : Bool) (d : Dir) : Bool := d == .released && pullUpFitted && !peerPulls

/-- The event is a line sample. -/
def Event.isSample : Event → Bool
  | .smp _ _ => true
  | .rel _ => false
  | .pul _ => false
  | .dly _ => false
  | .bInit _ => false
  | .bDeinit => false

/-- The least time a run of events takes, in nanoseconds (R311, R330). -/
def minDurationNs (t : Timing) (es : List Event) : Nat :=
  es.count (.dly .half) * t.tHalfNs + es.count (.dly .settle) * t.tSettleNs

/-! ### The events of the bodies -/

/-- R170: the six events of `STARTB`. -/
def startEvents : List Event := [.rel .dio, .rel .clk, .dly .half, .pul .dio, .dly .half, .pul .clk]

/-- R171: the six events of `STOPB`. -/
def stopEvents : List Event := [.pul .dio, .dly .half, .rel .clk, .dly .half, .rel .dio, .dly .half]

/-- R172: the five events of one data bit. -/
def bitEvents (bit : Bool) : List Event :=
  [if bit then .rel .dio else .pul .dio, .dly .half, .rel .clk, .dly .half, .pul .clk]

/-- R172: the 46 events of `WBODY(b)` when the ACK sample reads the level `a`. -/
def byteEvents (b : Byte) (a : Bool) : List Event :=
  (List.range 8).flatMap (fun i => bitEvents (b.getLsbD i)) ++
    [.rel .dio, .dly .half, .rel .clk, .dly .half, .smp .dio a, .pul .clk]

/-- R173: the 58 events of `SBODY(c)`. -/
def commandEvents (c : Byte) (a : Bool) : List Event := startEvents ++ byteEvents c a ++ stopEvents

/-- R160: the five events of `VBODY`. -/
def validateEvents (d c : Bool) : List Event := [.rel .dio, .rel .clk, .dly .settle, .smp .dio d, .smp .clk c]

/-- R230: the events of the first `n` bytes of a frame, each acknowledged. -/
def burstEvents (f : Frame) (n : Nat) : List Event := (frameIndices n).flatMap fun k => byteEvents (f.get k) false

/-- R230: the events of a WRITE_FRAME in which every frame byte is acknowledged; `a` and `z` are the levels read for
DATA_CMD and DISPON_CMD. -/
def writeFrameEvents (f : Frame) (n : Nat) (a z : Bool) : List Event :=
  commandEvents Config.dataCmd a ++ startEvents ++ burstEvents f n ++ stopEvents ++ commandEvents Config.disponCmd z

/-- R230, R232: the events of a WRITE_FRAME whose byte `k` is the first not acknowledged. -/
def nackEvents (f : Frame) (k : Fin 5) (a : Bool) : List Event :=
  commandEvents Config.dataCmd a ++ startEvents ++ burstEvents f k.val ++ byteEvents (f.get k) true ++ stopEvents

/-! ### Errors and writes -/

/-- R275: the code a command raises before any effect, case by case from the table of checks. -/
def preError (i : Instr) (s : State) : Option Err :=
  match i with
  | .release _ => if s.lc = .ready then none else some .notReady
  | .pull _ => if s.lc = .ready then none else some .notReady
  | .delay _ => if s.lc = .ready then none else some .notReady
  | .read l =>
    if s.lc ≠ .ready then some .notReady
    else if (match l with | .dio => s.dirDio | .clk => s.dirClk) = .pulled then some .readPulled
    else none
  | .validate =>
    if s.lc ≠ .ready then some .notReady else if s.session = true then some .session else none
  | .start =>
    if s.lc ≠ .ready then some .notReady else if s.session = true then some .session else none
  | .sendCommand _ =>
    if s.lc ≠ .ready then some .notReady else if s.session = true then some .session else none
  | .stop => if s.lc = .ready then none else some .notReady
  | .writeByte _ =>
    if s.lc ≠ .ready then some .notReady else if s.session = false then some .session else none
  | .encodeNumeric _ => none
  | .encodeError => none
  | .writeFrame =>
    if s.lc ≠ .ready then some .notReady
    else if s.session = true then some .session
    else if s.fkind = .none then some .noFrame
    else none
  | .init => if s.lc = .uninit then none else some .lifecycle
  | .shutdown => if s.lc = .ready then none else some .lifecycle

/-- The columns of R51's table. -/
inductive Field
  | ack
  | rdata
  | session
  | dir
  | lc
  | frame
  | failIdx
  | cfg
deriving DecidableEq, Repr

/-- R51: the fields marked `x` in the command's row. -/
def mayWrite : Instr → List Field
  | .release _ => [.dir]
  | .pull _ => [.dir]
  | .read _ => [.rdata]
  | .delay _ => []
  | .validate => [.dir, .cfg]
  | .start => [.session, .dir]
  | .stop => [.session, .dir]
  | .writeByte _ => [.ack, .dir]
  | .sendCommand _ => [.ack, .session, .dir]
  | .encodeNumeric _ => [.frame]
  | .encodeError => [.frame]
  | .writeFrame => [.ack, .session, .dir, .failIdx]
  | .init => [.dir, .lc, .cfg]
  | .shutdown => [.session, .dir, .lc]

/-- The field has the same contents in both states. -/
def Field.same (f : Field) (s t : State) : Prop :=
  match f with
  | .ack => t.ack = s.ack
  | .rdata => t.rdata = s.rdata
  | .session => t.session = s.session
  | .dir => t.dirDio = s.dirDio ∧ t.dirClk = s.dirClk
  | .lc => t.lc = s.lc
  | .frame => t.fb = s.fb ∧ t.fkind = s.fkind ∧ t.flen = s.flen
  | .failIdx => t.failIdx = s.failIdx
  | .cfg => t.cfgDioLow = s.cfgDioLow ∧ t.cfgClkLow = s.cfgClkLow

/-! ### Invariants -/

/-- R53: what holds in every reachable state between commands. -/
def Quiet (s : State) : Prop :=
  (s.lc ≠ .ready → s.session = false) ∧
  (s.fkind = .none ↔ s.flen = 0) ∧
  (s.fkind = .numeric ∨ s.fkind = .overflow → s.flen = 5) ∧
  (s.fkind = .error → s.flen = 4 ∧ s.fb.b4 = 0x00) ∧
  (s.fkind ≠ .none → s.fb.b0 = addrCmd) ∧
  (∀ l, s.lineOut l = false) ∧
  (s.bc = 0 ∨ s.bc = 8) ∧
  s.ustep = 0

/-- The trace accounts for the pins (R35), and every sample in it was of a Released line (R36). -/
def WireFaithful (s : State) : Prop := replay .idle s.trace = s.pins ∧ samplesReleased .idle s.trace = true

/-- R163, R313: while the lines have not been validated with success, no `Pul` has been made since reset, so there has
been no protocol traffic. -/
def NoTrafficUnvalidated (s : State) : Prop := s.lc = .uninit ∨ s.lc = .failed → ∀ l, Event.pul l ∉ s.trace

/-- The property holds once the current command has run to its end; between commands, it holds now. -/
def Settles (P : State → Prop) (s : State) : Prop :=
  match finishTurn s with
  | .next t => P t
  | .fault _ => False
  | .refused _ => False

/-- The first `n` turns of the sequencer at one expansion entry each. -/
def microTurns : Nat → State → Host.Outcome State Fault Refusal
  | 0, s => .next s
  | n + 1, s =>
    match microTurn s with
    | .next t => microTurns n t
    | .fault f => .fault f
    | .refused r => .refused r

/-- The turn is not an edge of RST. -/
def Turn.notReset : Turn → Bool
  | .rst _ => false
  | .access _ => true
  | .micro => true
  | .finish => true

end Sys2Proof.Machine
end

