-- ==== Sys2Proof/Certificates/Slice0/Obligations.lean ====
section
/-! DEFINITION. The statements for the provers. A statement about a command's result writes the whole next state out as
`{ s with … }`, so that it is the command's frame too: every field it does not name is as it was. -/

open Sys2Proof Sys2Proof.Machine

/-! ### Encoding (R100 to R109) -/

/-- R102, R103, R104: decoding the word of a well-formed command gives it back, operands and all. -/
def Obligations.DecodeEncodeRoundTrip : Prop :=
  ∀ i : Instr, i.wellFormed = true → decode (encode i) = .ok i

/-- R104, R105: a word has one meaning: what decodes to a command is that command's word, and the command is well formed. -/
def Obligations.EncodeDecodeRoundTrip : Prop :=
  ∀ (w : Word) (i : Instr), decode w = .ok i → encode i = w ∧ i.wellFormed = true

/-- R106: the words that are illegal, by the fields that make them so. -/
def Obligations.IllegalWordsAreThoseListed : Prop :=
  ∀ w : Word,
    (∃ e, decode w = .error e) ↔
      (w.extractLsb' 28 4 = 0x0 ∨ w.extractLsb' 28 4 = 0xF ∨
        w.extractLsb' 25 3 ≠ 0 ∨ w.extractLsb' 16 8 ≠ 0 ∨
        (w.getLsbD 24 = true ∧ w.extractLsb' 28 4 ∉ [0x1#4, 0x2#4, 0x3#4]) ∨
        (w.extractLsb' 28 4 ∈ [0x1#4, 0x2#4, 0x3#4, 0x5#4, 0x6#4, 0x7#4, 0xB#4, 0xC#4, 0xD#4, 0xE#4] ∧
          w.extractLsb' 0 16 ≠ 0) ∨
        (w.extractLsb' 28 4 = 0x4 ∧ w.extractLsb' 1 15 ≠ 0) ∨
        (w.extractLsb' 28 4 ∈ [0x8#4, 0x9#4] ∧ w.extractLsb' 8 8 ≠ 0))

/-- R109: the encoding examples, in both directions, and the illegal words. -/
def Obligations.SpecEncodingExamples : Prop :=
  decode 0x10000000 = .ok (.release .dio) ∧ encode (.release .dio) = 0x10000000 ∧
  decode 0x11000000 = .ok (.release .clk) ∧ encode (.release .clk) = 0x11000000 ∧
  decode 0x21000000 = .ok (.pull .clk) ∧ encode (.pull .clk) = 0x21000000 ∧
  decode 0x30000000 = .ok (.read .dio) ∧ encode (.read .dio) = 0x30000000 ∧
  decode 0x40000001 = .ok (.delay .settle) ∧ encode (.delay .settle) = 0x40000001 ∧
  decode 0x800000C0 = .ok (.writeByte 0xC0) ∧ encode (.writeByte 0xC0) = 0x800000C0 ∧
  decode 0x90000040 = .ok (.sendCommand 0x40) ∧ encode (.sendCommand 0x40) = 0x90000040 ∧
  decode 0xA00000EB = .ok (.encodeNumeric 235) ∧ encode (.encodeNumeric 235) = 0xA00000EB ∧
  decode 0xA000FFCE = .ok (.encodeNumeric (-50)) ∧ encode (.encodeNumeric (-50)) = 0xA000FFCE ∧
  decode 0xA0008000 = .ok (.encodeNumeric (-32768)) ∧ encode (.encodeNumeric (-32768)) = 0xA0008000 ∧
  decode 0xD0000000 = .ok .init ∧ encode .init = 0xD0000000 ∧
  decode 0x00000000 = .error .opcode ∧ decode 0xF0000000 = .error .opcode ∧
  decode 0x61000000 = .error .lineSelect ∧ decode 0x40000002 = .error .immediate ∧
  decode 0x80000100 = .error .immediate ∧ decode 0x10010000 = .error .reserved2

/-- R105, R106, R272: a latched word that is illegal sets `ERR` to E_ILLEGAL and ends; nothing else changes. -/
def Obligations.IllegalWordWritesErrOnly : Prop :=
  ∀ (s : State) (w : Word) (e : Illegal),
    s.rst = false → s.cur = some w → s.todo = [] → decode w = .error e →
      finishTurn s = .next { s with err := .illegal, cur := none, ustep := 0, todo := [] }

/-- R107: every command of a line that assembles is well formed, so it has a word. -/
def Obligations.AssembledLinesAreWellFormed : Prop :=
  ∀ (cs : List Char) (is : List Instr), assembleLine cs = some is → ∀ i ∈ is, i.wellFormed = true

/-! ### The step (R38, R82) -/

/-- R38, R82: when the latched word decodes to a command that has not begun, the sequencer's step is exec of it. -/
def Obligations.StepRunsTheLatchedCommand : Prop :=
  ∀ (s : State) (w : Word) (i : Instr),
    s.rst = false → s.cur = some w → s.todo = [] → decode w = .ok i →
      (s.turns = [] → step s = exec i s) ∧
      (∀ ts, s.turns = .finish :: ts → step s = exec i { s with turns := ts })

/-- Log entry 1: a table word placed with withFetchWord is the instruction the very next step runs. -/
def Obligations.StepRunsThePlacedWord : Prop :=
  ∀ (s : State) (nbits w : Nat) (i : Instr),
    decodeTableWord nbits w = some i →
      step (s.withFetchWord nbits w) =
        exec i { s with cur := some (BitVec.ofNat 32 (w % 2 ^ nbits)), ustep := 0, todo := [], rst := false }

/-- R82, step 1: a CMD write while `BUSY = 0` latches the word and sets `BUSY`. -/
def Obligations.CmdWriteStartsACommand : Prop :=
  ∀ (s : State) (w : Word) (ts : List Turn),
    s.rst = false → s.cur = none → s.turns = .access (.write 0 32 w) :: ts →
      step s = .next { s with turns := ts, cur := some w, ustep := 0, todo := [] }

/-- R82, step 4: a CMD write while `BUSY = 1` sets `OVR` and changes nothing else. -/
def Obligations.CmdWriteWhileBusyOnlySetsOvr : Prop :=
  ∀ (s : State) (v w : Word) (ts : List Turn),
    s.rst = false → s.cur = some v → s.turns = .access (.write 0 32 w) :: ts →
      step s = .next { s with turns := ts, ovr := true }

/-- R82, step 4: the running command is unaffected by a dropped write: it ends in the same state but for `OVR`. -/
def Obligations.DroppedWriteLeavesTheCommand : Prop :=
  ∀ s t : State, finishTurn s = .next t → finishTurn { s with ovr := true } = .next { t with ovr := true }

/-- R82, step 2: every command that ends leaves `CUR = none`, `USTEP = 0`, `BUSY = 0` and nothing to do. -/
def Obligations.CommandsEndIdle : Prop :=
  ∀ (i : Instr) (s t : State), exec i s = .next t → t.cur = none ∧ t.ustep = 0 ∧ t.busy = false ∧ t.todo = []

/-- R38: one entry of the expansion at a time, the sequencer reaches the same end as the atomic command does. Turns of
one entry, in which register writes and branches have turns of their own, are the model's form (log entries 2, 13). -/
def Obligations.MicroTurnsReachTheCommandsEnd : Prop :=
  ∀ s : State, ∃ n : Nat, microTurns n s = finishTurn s

/-! ### The port (R47 to R49, R71 to R74) -/

/-- R73: writes to STATUS, FRAME_LO and FRAME_HI have no effect at all. -/
def Obligations.OtherPortWritesAreIgnored : Prop :=
  ∀ (s : State) (o : BitVec 4) (w : Word) (ts : List Turn),
    o ∈ [4#4, 8#4, 12#4] → s.turns = .access (.write o 32 w) :: ts → step s = .next { s with turns := ts }

/-- R31, R43, R44, R47, R270: the bits of STATUS, with the codes of its fields. -/
def Obligations.StatusWordHasTheFields : Prop :=
  (∀ s : State,
    (statusWord s).getLsbD 0 = s.cur.isSome ∧ (statusWord s).getLsbD 1 = s.ack ∧
    (statusWord s).getLsbD 2 = s.rdata ∧ (statusWord s).getLsbD 3 = s.session ∧
    ((statusWord s).getLsbD 4 = true ↔ s.dirDio = .pulled) ∧ ((statusWord s).getLsbD 5 = true ↔ s.dirClk = .pulled) ∧
    (statusWord s).extractLsb' 6 2 = s.lc.code ∧ (statusWord s).extractLsb' 8 4 = s.err.code ∧
    (statusWord s).extractLsb' 12 3 = s.failIdx ∧ (statusWord s).getLsbD 15 = s.ovr ∧
    (statusWord s).getLsbD 16 = s.cfgDioLow ∧ (statusWord s).getLsbD 17 = s.cfgClkLow ∧
    (statusWord s).extractLsb' 18 2 = s.fkind.code ∧ (statusWord s).extractLsb' 20 3 = s.flen ∧
    (statusWord s).extractLsb' 23 9 = 0) ∧
  [Lifecycle.uninit, .ready, .failed, .off].map Lifecycle.code = [0, 1, 2, 3] ∧
  [FrameKind.none, .numeric, .overflow, .error].map FrameKind.code = [0, 1, 2, 3] ∧
  [Err.ok, .illegal, .notReady, .init, .config, .protocol, .noFrame, .lifecycle, .readPulled, .session].map Err.code =
    [0, 1, 2, 3, 4, 5, 6, 7, 8, 9]

/-- R47, R48, R49, R71, R73: what a read returns while `BUSY = 0`; reading changes nothing but the host's record. -/
def Obligations.IdleReadsReturnTheRegisters : Prop :=
  ∀ (s : State) (a : BitVec 2) (ts : List Turn),
    s.rst = false → s.cur = none → s.turns = .access (.read (a ++ 0#2) 32) :: ts →
      step s =
        .next
          { s with
            turns := ts
            readLog := s.readLog ++
              [(a,
                if a = 0 then 0
                else if a = 1 then statusWord s
                else if a = 2 then s.fb.b3 ++ s.fb.b2 ++ s.fb.b1 ++ s.fb.b0
                else 0#24 ++ s.fb.b4)] }

/-- R74: a STATUS read while `BUSY = 1` changes nothing, and fixes only `BUSY` and `OVR`. That the reserved bits read 0
then too is the model's inference from R47 and R50 (log entry 5); the record of reads is the model's own field (log
entry 14). -/
def Obligations.BusyStatusReadFixesBusyAndOvr : Prop :=
  ∀ (s : State) (v : Word) (ts : List Turn),
    s.rst = false → s.cur = some v → s.turns = .access (.read 4 32) :: ts →
      ∃ x : Word,
        step s = .next { s with turns := ts, readLog := s.readLog ++ [(1, x)] } ∧
        x.getLsbD 0 = true ∧ x.getLsbD 15 = s.ovr ∧ x.extractLsb' 23 9 = 0

/-- R72: an access of another width, or at an offset that is not a multiple of 4, is refused. -/
def Obligations.OtherAccessesAreRefused : Prop :=
  ∀ (s : State) (o : BitVec 4) (n : Nat) (w : Word) (ts : List Turn),
    (n ≠ 32 ∨ o.toNat % 4 ≠ 0) →
      (s.turns = .access (.read o n) :: ts ∨ s.turns = .access (.write o n w) :: ts) →
        step s = .refused .portAccess

/-- R32, R33: the output data of each line is 0, and its output is enabled exactly while the line is Pulled. -/
def Obligations.PinsFollowTheDirections : Prop :=
  ∀ (s : State) (l : Line),
    s.lineOut l = false ∧ (s.lineOe l = true ↔ (match l with | .dio => s.dirDio | .clk => s.dirClk) = .pulled)

/-! ### Reset (R52, R300) -/

/-- R52: the value of every piece of state after block reset. -/
def Obligations.ResetValues : Prop :=
  State.reset.dirDio = .released ∧ State.reset.dirClk = .released ∧
  (∀ l, State.reset.lineOut l = false) ∧
  State.reset.sr = 0x00 ∧ State.reset.bc = 0 ∧
  State.reset.cur = none ∧ State.reset.busy = false ∧ State.reset.ustep = 0 ∧
  State.reset.ack = false ∧ State.reset.rdata = false ∧ State.reset.session = false ∧
  State.reset.lc = .uninit ∧ State.reset.fb = ⟨0x00, 0x00, 0x00, 0x00, 0x00⟩ ∧
  State.reset.fkind = .none ∧ State.reset.flen = 0 ∧ State.reset.err = .ok ∧ State.reset.failIdx = 0 ∧
  State.reset.cfgDioLow = false ∧ State.reset.cfgClkLow = false ∧ State.reset.ovr = false ∧
  State.reset.trace = []

/-- R300: in every state, in the middle of a command too, after RST is asserted and released the block is in its reset
state; while it is asserted the lines are Released and a CMD write is not accepted. The model's choice (log entry 12): the
whole reset state stands from the assertion on, a CMD write then leaves `OVR` alone as well, and the fields that stand for
the other agents are kept. -/
def Obligations.RstResetsTheBlock : Prop :=
  ∀ (s : State) (ts : List Turn),
    (s.turns = .rst true :: ts →
      step s =
        .next
          { State.reset with
            rst := true, turns := ts, samples := s.samples, inits := s.inits, draws := s.draws, readLog := s.readLog }) ∧
    (s.rst = true → s.turns = .rst false :: ts →
      step s =
        .next
          { State.reset with
            turns := ts, samples := s.samples, inits := s.inits, draws := s.draws, readLog := s.readLog }) ∧
    (∀ w, s.rst = true → s.turns = .access (.write 0 32 w) :: ts → step s = .next { s with turns := ts })

/-! ### GPIO open-drain emulator (R139 to R143) -/

/-- R140: RELEASE releases its line and no other, with one event. -/
def Obligations.ReleaseResult : Prop :=
  ∀ (l : Line) (s : State), s.lc = .ready →
    exec (.release l) s =
      .next
        { s with
          dirDio := if l = .dio then .released else s.dirDio
          dirClk := if l = .clk then .released else s.dirClk
          trace := s.trace ++ [.rel l]
          err := .ok, cur := none, ustep := 0, todo := [] }

/-- R141: PULL pulls its line and no other, with one event. -/
def Obligations.PullResult : Prop :=
  ∀ (l : Line) (s : State), s.lc = .ready →
    exec (.pull l) s =
      .next
        { s with
          dirDio := if l = .dio then .pulled else s.dirDio
          dirClk := if l = .clk then .pulled else s.dirClk
          trace := s.trace ++ [.pul l]
          err := .ok, cur := none, ustep := 0, todo := [] }

/-- R142: READ of a Released line puts the oracle's answer in `RDATA`. -/
def Obligations.ReadResult : Prop :=
  ∀ (l : Line) (s : State), s.lc = .ready → (match l with | .dio => s.dirDio | .clk => s.dirClk) = .released →
    exec (.read l) s =
      .next
        { s with
          rdata := s.answer 0, samples := s.samples.drop 1, draws := s.draws + 1
          trace := s.trace ++ [.smp l (s.answer 0)]
          err := .ok, cur := none, ustep := 0, todo := [] }

/-- R36, R142: the level READ returns is whatever the environment answers: either bit is possible. -/
def Obligations.ReadAdmitsEitherLevel : Prop :=
  ∀ (l : Line) (s : State) (b : Bool), s.lc = .ready → s.dirDio = .released → s.dirClk = .released →
    ∃ t, exec (.read l) { s with samples := b :: s.samples } = .next t ∧ t.rdata = b ∧ t.samples = s.samples

/-- R143: DELAY appends its one event and changes nothing else. -/
def Obligations.DelayResult : Prop :=
  ∀ (k : DelayKind) (s : State), s.lc = .ready →
    exec (.delay k) s =
      .next { s with trace := s.trace ++ [.dly k], err := .ok, cur := none, ustep := 0, todo := [] }

/-! ### Line validator (R160, R161) -/

/-- R160, R161: VALIDATE releases both lines, waits, samples DIO and then CLK, and reports which read LOW. -/
def Obligations.ValidateResult : Prop :=
  ∀ s : State, s.lc = .ready → s.session = false →
    exec .validate s =
      .next
        { s with
          dirDio := .released, dirClk := .released
          cfgDioLow := !s.answer 0, cfgClkLow := !s.answer 1
          samples := s.samples.drop 2, draws := s.draws + 2
          trace := s.trace ++
            [.rel .dio, .rel .clk, .dly .settle, .smp .dio (s.answer 0), .smp .clk (s.answer 1)]
          err := if s.answer 0 = true ∧ s.answer 1 = true then .ok else .config
          cur := none, ustep := 0, todo := [] }

/-! ### Protocol state machine (R170 to R181) -/

/-- R170, R174: START. -/
def Obligations.StartResult : Prop :=
  ∀ s : State, s.lc = .ready → s.session = false →
    exec .start s =
      .next
        { s with
          dirDio := .pulled, dirClk := .pulled, session := true
          trace := s.trace ++ [.rel .dio, .rel .clk, .dly .half, .pul .dio, .dly .half, .pul .clk]
          err := .ok, cur := none, ustep := 0, todo := [] }

/-- R171, R175: STOP, in any session state. -/
def Obligations.StopResult : Prop :=
  ∀ s : State, s.lc = .ready →
    exec .stop s =
      .next
        { s with
          dirDio := .released, dirClk := .released, session := false
          trace := s.trace ++ [.pul .dio, .dly .half, .rel .clk, .dly .half, .rel .dio, .dly .half]
          err := .ok, cur := none, ustep := 0, todo := [] }

/-- R172, R176: WRITE_BYTE sends the bits least significant first, samples the ACK, and raises nothing on a NACK. -/
def Obligations.WriteByteResult : Prop :=
  ∀ (b : Byte) (s : State), s.lc = .ready → s.session = true →
    exec (.writeByte b) s =
      .next
        { s with
          dirDio := .released, dirClk := .pulled, ack := !s.answer 0, sr := 0x00, bc := 8
          samples := s.samples.drop 1, draws := s.draws + 1
          trace := s.trace ++ byteEvents b (s.answer 0)
          err := .ok, cur := none, ustep := 0, todo := [] }

/-- R173, R177: SEND_COMMAND sends its byte in a bracket of its own, and raises nothing on a NACK. -/
def Obligations.SendCommandResult : Prop :=
  ∀ (b : Byte) (s : State), s.lc = .ready → s.session = false →
    exec (.sendCommand b) s =
      .next
        { s with
          dirDio := .released, dirClk := .released, session := false, ack := !s.answer 0, sr := 0x00, bc := 8
          samples := s.samples.drop 1, draws := s.draws + 1
          trace := s.trace ++ (startEvents ++ byteEvents b (s.answer 0) ++ stopEvents)
          err := .ok, cur := none, ustep := 0, todo := [] }

/-- R75: with CLK Pulled, as START and a byte leave it, what WRITE_BYTE puts on the wires is the eight bits of the byte,
bit 0 first, one per clock pulse, and a ninth pulse with DIO left to the slave; it makes no START and no STOP. -/
def Obligations.WriteByteOnTheWire : Prop :=
  ∀ (b : Byte) (s : State), s.lc = .ready → s.session = true → s.dirClk = .pulled →
    ∃ (t : State) (es : List Event),
      exec (.writeByte b) s = .next t ∧ t.trace = s.trace ++ es ∧
      wireItems s.pins es =
        [.clocked (b.getLsbD 0), .clocked (b.getLsbD 1), .clocked (b.getLsbD 2), .clocked (b.getLsbD 3),
          .clocked (b.getLsbD 4), .clocked (b.getLsbD 5), .clocked (b.getLsbD 6), .clocked (b.getLsbD 7),
          .clocked true]

/-- R179: between two transitions of one line stands a half-period delay, in every session and across a STOP and the
next START, from whatever directions the lines have. -/
def Obligations.SessionDelaysAreSeparated : Prop :=
  ∀ s : State,
    (∀ bs : List Byte, ∃ es,
      (runUops (startB ++ bs.flatMap wBody ++ stopB) s).trace = s.trace ++ es ∧
        delaySeparated true true s.pins es = true) ∧
    (∃ es, (runUops (stopB ++ startB) s).trace = s.trace ++ es ∧ delaySeparated true true s.pins es = true)

/-- R181: the events, delays, samples and CLK releases of each body, and the least time of a byte and of a command. -/
def Obligations.BodyEventCounts : Prop :=
  ∀ (s : State) (b : Byte), ∃ e1 e2 e3 e4 : List Event,
    (runUops startB s).trace = s.trace ++ e1 ∧
    (e1.length, e1.count (.dly .half), e1.countP Event.isSample, e1.count (.rel .clk)) = (6, 2, 0, 1) ∧
    (runUops stopB s).trace = s.trace ++ e2 ∧
    (e2.length, e2.count (.dly .half), e2.countP Event.isSample, e2.count (.rel .clk)) = (6, 3, 0, 1) ∧
    (runUops (wBody b) s).trace = s.trace ++ e3 ∧
    (e3.length, e3.count (.dly .half), e3.countP Event.isSample, e3.count (.rel .clk)) = (46, 18, 1, 9) ∧
    (runUops (sBody b) s).trace = s.trace ++ e4 ∧
    (e4.length, e4.count (.dly .half), e4.countP Event.isSample, e4.count (.rel .clk)) = (58, 23, 1, 11) ∧
    minDurationNs Config.timing e3 = 18 * Config.timing.tHalfNs ∧
    minDurationNs Config.timing e4 = 23 * Config.timing.tHalfNs

/-! ### Segment encoder (R199 to R206) -/

/-- R199, R200: ENCODE_NUMERIC in any state, for every 16-bit value: the frame by its digits, or the overflow frame with
the sign byte kept. That an operand outside 16 bits, which has no word, follows the same arithmetic is the model's choice
(log entry 20). -/
def Obligations.EncodeNumericResult : Prop :=
  ∀ (v : Int) (s : State),
    exec (.encodeNumeric v) s =
      .next
        { s with
          fb :=
            if 1000 ≤ v.natAbs then ⟨0xC0, if v < 0 then 0x40 else 0x00, 0x3F, 0x71, 0x38⟩
            else
              ⟨0xC0, if v < 0 then 0x40 else 0x00, Config.dig.seg (toDigit (v.natAbs / 100)),
                Config.dig.seg (toDigit (v.natAbs / 10 % 10)) ||| 0x80, Config.dig.seg (toDigit (v.natAbs % 10))⟩
          fkind := if 1000 ≤ v.natAbs then .overflow else .numeric
          flen := 5
          err := .ok, cur := none, ustep := 0, todo := [] }

/-- R202: what the frame of a value shows, for every 16-bit value; the digits can be read back because the ten patterns
are distinct. -/
def Obligations.NumericFrameShowsTheValue : Prop :=
  (∀ (v : Int) (s : State), -32768 ≤ v → v ≤ 32767 →
    ∃ t, exec (.encodeNumeric v) s = .next t ∧ t.fb.b0 = 0xC0 ∧ t.flen = 5 ∧
      t.fb.b1 = (if v < 0 then 0x40 else 0x00) ∧
      (v.natAbs ≤ 999 →
        t.fkind = .numeric ∧
        (∀ h n u : Fin 10, v.natAbs = 100 * h.val + 10 * n.val + u.val →
          t.fb.b2 &&& 0x7F = Config.dig.seg h ∧ t.fb.b3 &&& 0x7F = Config.dig.seg n ∧
            t.fb.b4 &&& 0x7F = Config.dig.seg u) ∧
        t.fb.b3.getLsbD 7 = true ∧ t.fb.b1.getLsbD 7 = false ∧ t.fb.b2.getLsbD 7 = false ∧ t.fb.b4.getLsbD 7 = false) ∧
      (1000 ≤ v.natAbs → t.fkind = .overflow ∧ t.fb.b2 = 0x3F ∧ t.fb.b3 = 0x71 ∧ t.fb.b4 = 0x38)) ∧
  (∀ d e : Fin 10, Config.dig.seg d = Config.dig.seg e → d = e)

/-- R201: a frame overflows exactly when the magnitude is 1000 or more, for every 16-bit value; -32768 does not wrap.
That the same holds of an operand outside 16 bits, which has no word, is the model's choice (log entry 20). -/
def Obligations.OverflowExactlyFromOneThousand : Prop :=
  ∀ (v : Int) (s : State), ∃ t, exec (.encodeNumeric v) s = .next t ∧ (t.fkind = .overflow ↔ v ≤ -1000 ∨ 1000 ≤ v)

/-- R202: two values shown as digits have the same frame only if they are equal. -/
def Obligations.NumericFramesTellValuesApart : Prop :=
  ∀ (v w : Int) (s t u : State),
    v.natAbs ≤ 999 → w.natAbs ≤ 999 → exec (.encodeNumeric v) s = .next t → exec (.encodeNumeric w) s = .next u →
      t.fb = u.fb → v = w

/-- R199, R205: ENCODE_ERROR, in any state, leaves the same frame every time. -/
def Obligations.EncodeErrorResult : Prop :=
  ∀ s : State,
    exec .encodeError s =
      .next
        { s with
          fb := ⟨0xC0, 0x79, 0x60, 0x60, 0x00⟩, fkind := .error, flen := 4
          err := .ok, cur := none, ustep := 0, todo := [] }

/-! ### Display-session sequencer (R230 to R234) -/

/-- R230, R231: WRITE_FRAME when every frame byte is acknowledged, whatever DATA_CMD and DISPON_CMD get. -/
def Obligations.WriteFrameAcked : Prop :=
  ∀ s : State, s.lc = .ready → s.session = false → s.fkind ≠ .none → s.flen.toNat ≤ 5 →
    (∀ k < s.flen.toNat, s.answer (k + 1) = false) →
      exec .writeFrame s =
        .next
          { s with
            dirDio := .released, dirClk := .released, session := false, sr := 0x00, bc := 8
            ack := !s.answer (s.flen.toNat + 1), failIdx := 0
            samples := s.samples.drop (s.flen.toNat + 2), draws := s.draws + (s.flen.toNat + 2)
            trace := s.trace ++ writeFrameEvents s.fb s.flen.toNat (s.answer 0) (s.answer (s.flen.toNat + 1))
            err := .ok, cur := none, ustep := 0, todo := [] }

/-- R230, R232: WRITE_FRAME when byte `k` is the first not acknowledged: the trace ends with that byte and STOP. -/
def Obligations.WriteFrameNacked : Prop :=
  ∀ (s : State) (k : Fin 5), s.lc = .ready → s.session = false → s.fkind ≠ .none → s.flen.toNat ≤ 5 →
    k.val < s.flen.toNat → (∀ j < k.val, s.answer (j + 1) = false) → s.answer (k.val + 1) = true →
      exec .writeFrame s =
        .next
          { s with
            dirDio := .released, dirClk := .released, session := false, sr := 0x00, bc := 8
            ack := false, failIdx := BitVec.ofNat 3 k.val
            samples := s.samples.drop (k.val + 2), draws := s.draws + (k.val + 2)
            trace := s.trace ++ nackEvents s.fb k (s.answer 0)
            err := .protocol, cur := none, ustep := 0, todo := [] }

/-- R44, R70, log entry 11 (the model's choice): past its checks, WRITE_FRAME with a length above 5, which no run
reaches, stops: `FB` has no such byte. -/
def Obligations.WriteFrameStopsOnALongFrame : Prop :=
  ∀ s : State, s.lc = .ready → s.session = false → s.fkind ≠ .none → 5 < s.flen.toNat →
    exec .writeFrame s = .fault .frameIndex

/-- R233: how many events WRITE_FRAME appends, and how many of them are delays and samples. -/
def Obligations.WriteFrameEventCounts : Prop :=
  ∀ s : State, s.lc = .ready → s.session = false → s.fkind ≠ .none → s.flen.toNat ≤ 5 →
    ((∀ k < s.flen.toNat, s.answer (k + 1) = false) →
      ∃ t es, exec .writeFrame s = .next t ∧ t.trace = s.trace ++ es ∧
        es.length = 128 + 46 * s.flen.toNat ∧ es.count (.dly .half) = 51 + 18 * s.flen.toNat ∧
        es.countP Event.isSample = s.flen.toNat + 2) ∧
    (∀ k < s.flen.toNat, (∀ j < k, s.answer (j + 1) = false) → s.answer (k + 1) = true →
      ∃ t es, exec .writeFrame s = .next t ∧ t.trace = s.trace ++ es ∧ es.length = 116 + 46 * k)

/-- R76, R127, R231, R232: what a receiver on the wires sees of WRITE_FRAME from the idle lines: the data command, the
frame's bytes in index order and the display-on command, each in a START…STOP bracket; or, after a NACK on byte `k`, the
data command and the bytes up to `k`. -/
def Obligations.WriteFrameOnTheWire : Prop :=
  ∀ s : State, s.lc = .ready → s.session = false → s.fkind ≠ .none → s.flen.toNat ≤ 5 → s.pins = .idle →
    ∃ t es, exec .writeFrame s = .next t ∧ t.trace = s.trace ++ es ∧
      ((∀ k < s.flen.toNat, s.answer (k + 1) = false) →
        wireItems .idle es =
          bracketItems [Config.dataCmd] ++
            bracketItems ([s.fb.b0, s.fb.b1, s.fb.b2, s.fb.b3, s.fb.b4].take s.flen.toNat) ++
            bracketItems [Config.disponCmd]) ∧
      (∀ k < s.flen.toNat, (∀ j < k, s.answer (j + 1) = false) → s.answer (k + 1) = true →
        wireItems .idle es =
          bracketItems [Config.dataCmd] ++
            bracketItems ([s.fb.b0, s.fb.b1, s.fb.b2, s.fb.b3, s.fb.b4].take (k + 1)))

/-- R178: WRITE_FRAME keeps a half-period delay between any two transitions of one line, from whatever directions the
lines have and whatever the slave answers. -/
def Obligations.WriteFrameDelaysAreSeparated : Prop :=
  ∀ s t : State, exec .writeFrame s = .next t →
    ∃ es, t.trace = s.trace ++ es ∧ delaySeparated true true s.pins es = true

/-! ### Lifecycle controller (R250 to R256) -/

/-- R250, R251: INIT's three ends: the backend does not come up; a line reads LOW; both lines read HIGH. -/
def Obligations.InitResult : Prop :=
  ∀ s : State, s.lc = .uninit →
    (s.initAnswer = false →
      exec .init s =
        .next
          { s with
            lc := .failed, inits := s.inits.drop 1, draws := s.draws + 1
            trace := s.trace ++ [.bInit false]
            err := .init, cur := none, ustep := 0, todo := [] }) ∧
    (∀ d c : Bool, s.initAnswer = true → d = s.samples[0]?.getD (Config.sample (s.draws + 1)) →
      c = s.samples[1]?.getD (Config.sample (s.draws + 2)) →
        exec .init s =
          .next
            { s with
              dirDio := .released, dirClk := .released, cfgDioLow := !d, cfgClkLow := !c
              lc := if d = true ∧ c = true then .ready else .failed
              inits := s.inits.drop 1, samples := s.samples.drop 2, draws := s.draws + 3
              trace := s.trace ++
                ([.bInit true, .rel .dio, .rel .clk, .dly .settle, .smp .dio d, .smp .clk c] ++
                  if d = true ∧ c = true then [] else [.bDeinit])
              err := if d = true ∧ c = true then .ok else .config
              cur := none, ustep := 0, todo := [] })

/-- R34, R163: when the backend comes up and the samples are the levels the bus law gives, INIT reaches READY exactly if
both pull-ups are fitted and no peer pulls a line. -/
def Obligations.InitChecksThePullUps : Prop :=
  ∀ (s : State) (fitDio fitClk peerDio peerClk : Bool) (rest : List Bool),
    s.lc = .uninit → s.inits.head? = some true →
      s.samples = busLevel fitDio peerDio .released :: busLevel fitClk peerClk .released :: rest →
        ∃ t, exec .init s = .next t ∧
          (t.lc = .ready ↔ fitDio = true ∧ fitClk = true ∧ peerDio = false ∧ peerClk = false) ∧
          (t.lc = .ready ∨ t.lc = .failed)

/-- R255: SHUTDOWN releases both lines and deinitialises the backend, whatever `SESSION` is. -/
def Obligations.ShutdownResult : Prop :=
  ∀ s : State, s.lc = .ready →
    exec .shutdown s =
      .next
        { s with
          dirDio := .released, dirClk := .released, session := false, lc := .off
          trace := s.trace ++ [.rel .dio, .rel .clk, .bDeinit]
          err := .ok, cur := none, ustep := 0, todo := [] }

/-- R43: the only changes of `LC` a command makes. -/
def Obligations.LifecycleTransitions : Prop :=
  ∀ (i : Instr) (s t : State), exec i s = .next t →
    t.lc = s.lc ∨
      (i = .init ∧ s.lc = .uninit ∧ (t.lc = .ready ∨ t.lc = .failed)) ∨
      (i = .shutdown ∧ s.lc = .ready ∧ t.lc = .off)

/-! ### Errors and writes (R51, R272 to R275) -/

/-- R272, R275: when a check fails, in the order of R275, the command writes the code of the first that fails, and
nothing else. -/
def Obligations.PreExecutionErrorsWriteErrOnly : Prop :=
  ∀ (i : Instr) (s : State) (e : Err), preError i s = some e →
    exec i s = .next { s with err := e, cur := none, ustep := 0, todo := [] }

/-- R273: every accepted command writes `ERR`: what it was before has no effect on anything. -/
def Obligations.ErrIsNotSticky : Prop :=
  ∀ (i : Instr) (s : State) (e : Err), exec i { s with err := e } = exec i s

/-- R51: a command changes no field that its row of the table does not mark. -/
def Obligations.CommandsKeepUnmarkedFields : Prop :=
  ∀ (i : Instr) (s t : State) (f : Field), exec i s = .next t → f ∉ mayWrite i → f.same s t

/-- R35, R39, R46, R80: what no command touches: `OVR`, RST, the other agents' data; `SR` and `BC` but for the commands
that send bytes; and the trace only grows. -/
def Obligations.CommandsKeepTheRest : Prop :=
  ∀ (i : Instr) (s t : State), exec i s = .next t →
    t.ovr = s.ovr ∧ t.rst = s.rst ∧ t.turns = s.turns ∧ t.readLog = s.readLog ∧
    (∃ es, t.trace = s.trace ++ es) ∧
    ((∀ b, i ≠ .writeByte b) → (∀ b, i ≠ .sendCommand b) → i ≠ .writeFrame → t.sr = s.sr ∧ t.bc = s.bc)

/-! ### Invariants (R35, R36, R53) -/

/-- R35, R36, R52, R53, R163: the state after reset meets the three invariants stated below. -/
def Obligations.InvariantsHoldAtReset : Prop :=
  Settles Quiet State.reset ∧ Settles WireFaithful State.reset ∧ Settles NoTrafficUnvalidated State.reset

/-- R53: every step of every agent keeps the invariants between commands: they hold now if no command runs, and at the
end of the one that runs. -/
def Obligations.StepKeepsQuiet : Prop :=
  ∀ s t : State, Settles Quiet s → step s = .next t → Settles Quiet t

/-- R53, R70: from a state with the invariants no command faults or is refused, and each keeps them. -/
def Obligations.QuietCommandsComplete : Prop :=
  ∀ (i : Instr) (s : State), Quiet s → ∃ t, exec i s = .next t ∧ Quiet t

/-- R35: in every step, the pins are what the events of the trace make them; also in the middle of a command. -/
def Obligations.StepKeepsTraceTellingThePins : Prop :=
  ∀ s t : State, replay .idle s.trace = s.pins → step s = .next t → replay .idle t.trace = t.pins

/-- R35, R36: every step keeps it: each sample was taken while its line was Released. The premise `Settles Quiet s`, an
invariant of its own, keeps out the states in which a WRITE_FRAME would stop on a frame length no run reaches. -/
def Obligations.StepKeepsWireFaithful : Prop :=
  ∀ s t : State, Settles Quiet s → Settles WireFaithful s → step s = .next t → Settles WireFaithful t

/-- R163, R313: every step keeps it: in UNINIT and FAILED the block has pulled no line since reset. The premise
`Settles Quiet s` is there for the same reason. -/
def Obligations.StepKeepsNoTrafficUnvalidated : Prop :=
  ∀ s t : State, Settles Quiet s → Settles NoTrafficUnvalidated s → step s = .next t → Settles NoTrafficUnvalidated t

/-- R35, R46: without an edge of RST, a step removes nothing from the trace and leaves a set `OVR` set. -/
def Obligations.TraceGrowsAndOvrStays : Prop :=
  ∀ s t : State, (∀ u ∈ s.turns.head?, u.notReset = true) → step s = .next t →
    (∃ es, t.trace = s.trace ++ es) ∧ (s.ovr = true → t.ovr = true)
end

