-- ==== Sys2Proof/Laws/Decode.lean ====
section
/-! SUPPORT. The decoder in arithmetic: which words select each row of R104, as numbers, and the words the encoder gives,
as numbers; with them, claims about encodings are linear arithmetic. -/

namespace Sys2Proof

/-- A mask of ones above bit `k` keeps the high part of a word. -/
theorem and_highMask (w : Word) (k : Nat) : w &&& (BitVec.allOnes 32 <<< k) = (w >>> k) <<< k := by
  apply BitVec.eq_of_getLsbD_eq
  intro i hi
  by_cases h : i < k
  · simp [h]
  · have h' : k + (i - k) = i := by omega
    have h'' : i - k < 32 := by omega
    rw [BitVec.getLsbD_and, BitVec.getLsbD_shiftLeft, BitVec.getLsbD_shiftLeft, BitVec.getLsbD_ushiftRight, h',
      BitVec.getLsbD_allOnes]
    simp [hi, h, h'']

/-- The same as a number. -/
theorem toNat_and_highMask (w : Word) (k : Nat) :
    (w &&& (BitVec.allOnes 32 <<< k)).toNat = w.toNat / 2 ^ k * 2 ^ k := by
  have hw := w.isLt
  have hle : w.toNat / 2 ^ k * 2 ^ k ≤ w.toNat := Nat.div_mul_le_self _ _
  rw [and_highMask, BitVec.toNat_shiftLeft, BitVec.toNat_ushiftRight, Nat.shiftLeft_eq,
    Nat.shiftRight_eq_div_pow, Nat.mod_eq_of_lt (by omega)]

/-- The mask of format L (R104) keeps all of a word but bit 24. -/
theorem toNat_and_lineMask (w : Word) :
    (w &&& 0xFEFFFFFF#32).toNat = w.toNat / 2 ^ 25 * 2 ^ 25 + w.toNat % 2 ^ 24 := by
  have hm : 0xFEFFFFFF#32 = BitVec.allOnes 32 <<< 25 ||| 0xFFFFFF#32 := by decide
  have hd : (w &&& (BitVec.allOnes 32 <<< 25)) &&& (w &&& 0xFFFFFF#32) = 0#32 := by
    rw [BitVec.and_assoc, ← BitVec.and_assoc _ w, BitVec.and_comm _ w, BitVec.and_assoc w]
    simp
  have hl : (w &&& 0xFFFFFF#32).toNat = w.toNat % 2 ^ 24 := by
    rw [BitVec.toNat_and]
    exact Nat.and_two_pow_sub_one_eq_mod w.toNat 24
  have hdist : w &&& (BitVec.allOnes 32 <<< 25 ||| 0xFFFFFF#32) =
      (w &&& (BitVec.allOnes 32 <<< 25)) + (w &&& 0xFFFFFF#32) := by
    rw [BitVec.add_eq_or_of_and_eq_zero _ _ hd]
    apply BitVec.eq_of_getLsbD_eq
    intro i hi
    rw [BitVec.getLsbD_and, BitVec.getLsbD_or, BitVec.getLsbD_or, BitVec.getLsbD_and, BitVec.getLsbD_and,
      Bool.and_or_distrib_left]
  have hw := w.isLt
  rw [hm, hdist, BitVec.toNat_add, toNat_and_highMask, hl, Nat.mod_eq_of_lt (by omega)]

/-- A row of format L (R104) selects two words, one per line. -/
theorem selects_formatL (p w : Word) (f : Word → Instr) (hp : p.toNat % 2 ^ 25 = 0) :
    (Row.mk p 0xFEFFFFFF#32 f).selects w = decide (w.toNat = p.toNat ∨ w.toNat = p.toNat + 2 ^ 24) := by
  rw [Row.selects, Bool.beq_eq_decide_eq]
  apply decide_eq_decide.mpr
  rw [← BitVec.toNat_inj, toNat_and_lineMask]
  dsimp only
  omega

/-- A row of format K (R104) selects two words. -/
theorem selects_formatK (p w : Word) (f : Word → Instr) (hp : p.toNat % 2 = 0) :
    (Row.mk p 0xFFFFFFFE#32 f).selects w = decide (w.toNat / 2 = p.toNat / 2) := by
  have hm : 0xFFFFFFFE#32 = BitVec.allOnes 32 <<< 1 := by decide
  rw [Row.selects, Bool.beq_eq_decide_eq, hm]
  apply decide_eq_decide.mpr
  rw [← BitVec.toNat_inj, toNat_and_highMask]
  dsimp only
  omega

/-- A row of format B (R104) selects 256 words. -/
theorem selects_formatB (p w : Word) (f : Word → Instr) (hp : p.toNat % 256 = 0) :
    (Row.mk p 0xFFFFFF00#32 f).selects w = decide (w.toNat / 256 = p.toNat / 256) := by
  have hm : 0xFFFFFF00#32 = BitVec.allOnes 32 <<< 8 := by decide
  rw [Row.selects, Bool.beq_eq_decide_eq, hm]
  apply decide_eq_decide.mpr
  rw [← BitVec.toNat_inj, toNat_and_highMask]
  dsimp only
  omega

/-- A row of format V (R104) selects 65536 words. -/
theorem selects_formatV (p w : Word) (f : Word → Instr) (hp : p.toNat % 65536 = 0) :
    (Row.mk p 0xFFFF0000#32 f).selects w = decide (w.toNat / 65536 = p.toNat / 65536) := by
  have hm : 0xFFFF0000#32 = BitVec.allOnes 32 <<< 16 := by decide
  rw [Row.selects, Bool.beq_eq_decide_eq, hm]
  apply decide_eq_decide.mpr
  rw [← BitVec.toNat_inj, toNat_and_highMask]
  dsimp only
  omega

/-- A row of format N (R104) selects one word. -/
theorem selects_formatN (p w : Word) (f : Word → Instr) :
    (Row.mk p 0xFFFFFFFF#32 f).selects w = decide (w.toNat = p.toNat) := by
  have hm : 0xFFFFFFFF#32 = BitVec.allOnes 32 := by decide
  rw [Row.selects, Bool.beq_eq_decide_eq, hm]
  apply decide_eq_decide.mpr
  rw [← BitVec.toNat_inj, BitVec.and_allOnes]

/-- R105 in arithmetic: what every word decodes to. -/
theorem decode_eq (w : Word) :
    decode w =
      if w.toNat = 0x10000000 ∨ w.toNat = 0x11000000 then .ok (.release (lineField w))
      else if w.toNat = 0x20000000 ∨ w.toNat = 0x21000000 then .ok (.pull (lineField w))
      else if w.toNat = 0x30000000 ∨ w.toNat = 0x31000000 then .ok (.read (lineField w))
      else if w.toNat / 2 = 0x20000000 then .ok (.delay (delayField w))
      else if w.toNat = 0x50000000 then .ok .validate
      else if w.toNat = 0x60000000 then .ok .start
      else if w.toNat = 0x70000000 then .ok .stop
      else if w.toNat / 256 = 0x800000 then .ok (.writeByte (byteField w))
      else if w.toNat / 256 = 0x900000 then .ok (.sendCommand (byteField w))
      else if w.toNat / 65536 = 0xA000 then .ok (.encodeNumeric (valField w))
      else if w.toNat = 0xB0000000 then .ok .encodeError
      else if w.toNat = 0xC0000000 then .ok .writeFrame
      else if w.toNat = 0xD0000000 then .ok .init
      else if w.toNat = 0xE0000000 then .ok .shutdown
      else .error (illegalReason w) := by
  have step : ∀ (r : Row) (rs : List Row) (P : Prop) [Decidable P], r.selects w = decide P →
      (match (r :: rs).find? (·.selects w) with
        | some r => Except.ok (r.operands w)
        | none => .error (illegalReason w)) =
      if P then .ok (r.operands w)
      else match rs.find? (·.selects w) with
        | some r => Except.ok (r.operands w)
        | none => .error (illegalReason w) := by
    intro r rs P _ h
    by_cases hP : P <;> simp [List.find?, h, hP]
  unfold decode opcodeRows
  refine (step _ _ _ (selects_formatL _ w _ (by decide))).trans (if_congr Iff.rfl rfl ?_)
  refine (step _ _ _ (selects_formatL _ w _ (by decide))).trans (if_congr Iff.rfl rfl ?_)
  refine (step _ _ _ (selects_formatL _ w _ (by decide))).trans (if_congr Iff.rfl rfl ?_)
  refine (step _ _ _ (selects_formatK _ w _ (by decide))).trans (if_congr Iff.rfl rfl ?_)
  refine (step _ _ _ (selects_formatN _ w _)).trans (if_congr Iff.rfl rfl ?_)
  refine (step _ _ _ (selects_formatN _ w _)).trans (if_congr Iff.rfl rfl ?_)
  refine (step _ _ _ (selects_formatN _ w _)).trans (if_congr Iff.rfl rfl ?_)
  refine (step _ _ _ (selects_formatB _ w _ (by decide))).trans (if_congr Iff.rfl rfl ?_)
  refine (step _ _ _ (selects_formatB _ w _ (by decide))).trans (if_congr Iff.rfl rfl ?_)
  refine (step _ _ _ (selects_formatV _ w _ (by decide))).trans (if_congr Iff.rfl rfl ?_)
  refine (step _ _ _ (selects_formatN _ w _)).trans (if_congr Iff.rfl rfl ?_)
  refine (step _ _ _ (selects_formatN _ w _)).trans (if_congr Iff.rfl rfl ?_)
  refine (step _ _ _ (selects_formatN _ w _)).trans (if_congr Iff.rfl rfl ?_)
  refine (step _ _ _ (selects_formatN _ w _)).trans (if_congr Iff.rfl rfl ?_)
  rfl

/-- Two fields side by side, as a number. -/
theorem toNat_append_eq (m n : Nat) (x : BitVec m) (y : BitVec n) : (x ++ y).toNat = x.toNat * 2 ^ n + y.toNat := by
  rw [BitVec.toNat_append, ← Nat.shiftLeft_add_eq_or_of_lt y.isLt, Nat.shiftLeft_eq]

/-- The five formats of R102 as numbers. -/
theorem toNat_formatL (opc : BitVec 4) (l : Line) :
    (formatL opc l).toNat = opc.toNat * 2 ^ 28 + (match l with | .dio => 0 | .clk => 2 ^ 24) := by
  have h : ∀ b : BitVec 1, (opc ++ 0#3 ++ b ++ 0#24).toNat = opc.toNat * 2 ^ 28 + b.toNat * 2 ^ 24 := by
    intro b
    simp only [toNat_append_eq]
    simp
    omega
  cases l
  · exact h 0
  · exact h 1

@[inherit_doc toNat_formatL] theorem toNat_formatK (opc : BitVec 4) (k : DelayKind) :
    (formatK opc k).toNat = opc.toNat * 2 ^ 28 + (match k with | .half => 0 | .settle => 1) := by
  have h : ∀ b : BitVec 1, (opc ++ 0#27 ++ b).toNat = opc.toNat * 2 ^ 28 + b.toNat := by
    intro b
    simp only [toNat_append_eq]
    simp
    omega
  cases k
  · exact h 0
  · exact h 1

@[inherit_doc toNat_formatL] theorem toNat_formatB (opc : BitVec 4) (b : Byte) :
    (formatB opc b).toNat = opc.toNat * 2 ^ 28 + b.toNat := by
  simp only [formatB, toNat_append_eq]
  simp
  omega

@[inherit_doc toNat_formatL] theorem toNat_formatV (opc : BitVec 4) (v : Int) :
    (formatV opc v).toNat = opc.toNat * 2 ^ 28 + (BitVec.ofInt 16 v).toNat := by
  simp only [formatV, toNat_append_eq]
  simp
  omega

@[inherit_doc toNat_formatL] theorem toNat_formatN (opc : BitVec 4) : (formatN opc).toNat = opc.toNat * 2 ^ 28 := by
  simp only [formatN, toNat_append_eq]
  simp

/-- A field of a word as a number. -/
theorem toNat_field (w : Word) (lo n : Nat) : (w.extractLsb' lo n).toNat = w.toNat / 2 ^ lo % 2 ^ n := by
  rw [BitVec.extractLsb'_toNat, Nat.shiftRight_eq_div_pow]

end Sys2Proof
end

