-- ==== Sys2Proof/Laws/State.lean ====
section
/-! SUPPORT. What each update of the state leaves in each field, one lemma per field, so that no later proof unfolds a
record update. -/

namespace Sys2Proof.Machine

@[simp] theorem State.emit_dirDio (s : State) (e : Event) : (s.emit e).dirDio = s.dirDio := rfl
@[simp] theorem State.emit_dirClk (s : State) (e : Event) : (s.emit e).dirClk = s.dirClk := rfl
@[simp] theorem State.emit_sr (s : State) (e : Event) : (s.emit e).sr = s.sr := rfl
@[simp] theorem State.emit_bc (s : State) (e : Event) : (s.emit e).bc = s.bc := rfl
@[simp] theorem State.emit_cur (s : State) (e : Event) : (s.emit e).cur = s.cur := rfl
@[simp] theorem State.emit_ustep (s : State) (e : Event) : (s.emit e).ustep = s.ustep + 1 := rfl
@[simp] theorem State.emit_ack (s : State) (e : Event) : (s.emit e).ack = s.ack := rfl
@[simp] theorem State.emit_rdata (s : State) (e : Event) : (s.emit e).rdata = s.rdata := rfl
@[simp] theorem State.emit_session (s : State) (e : Event) : (s.emit e).session = s.session := rfl
@[simp] theorem State.emit_lc (s : State) (e : Event) : (s.emit e).lc = s.lc := rfl
@[simp] theorem State.emit_fb (s : State) (e : Event) : (s.emit e).fb = s.fb := rfl
@[simp] theorem State.emit_fkind (s : State) (e : Event) : (s.emit e).fkind = s.fkind := rfl
@[simp] theorem State.emit_flen (s : State) (e : Event) : (s.emit e).flen = s.flen := rfl
@[simp] theorem State.emit_err (s : State) (e : Event) : (s.emit e).err = s.err := rfl
@[simp] theorem State.emit_failIdx (s : State) (e : Event) : (s.emit e).failIdx = s.failIdx := rfl
@[simp] theorem State.emit_cfgDioLow (s : State) (e : Event) : (s.emit e).cfgDioLow = s.cfgDioLow := rfl
@[simp] theorem State.emit_cfgClkLow (s : State) (e : Event) : (s.emit e).cfgClkLow = s.cfgClkLow := rfl
@[simp] theorem State.emit_ovr (s : State) (e : Event) : (s.emit e).ovr = s.ovr := rfl
@[simp] theorem State.emit_trace (s : State) (e : Event) : (s.emit e).trace = s.trace ++ [e] := rfl
@[simp] theorem State.emit_rst (s : State) (e : Event) : (s.emit e).rst = s.rst := rfl
@[simp] theorem State.emit_todo (s : State) (e : Event) : (s.emit e).todo = s.todo := rfl
@[simp] theorem State.emit_samples (s : State) (e : Event) : (s.emit e).samples = s.samples := rfl
@[simp] theorem State.emit_inits (s : State) (e : Event) : (s.emit e).inits = s.inits := rfl
@[simp] theorem State.emit_draws (s : State) (e : Event) : (s.emit e).draws = s.draws := rfl
@[simp] theorem State.emit_turns (s : State) (e : Event) : (s.emit e).turns = s.turns := rfl
@[simp] theorem State.emit_readLog (s : State) (e : Event) : (s.emit e).readLog = s.readLog := rfl

@[simp] theorem State.drawSample_dirDio (s : State) : (s.drawSample).dirDio = s.dirDio := rfl
@[simp] theorem State.drawSample_dirClk (s : State) : (s.drawSample).dirClk = s.dirClk := rfl
@[simp] theorem State.drawSample_sr (s : State) : (s.drawSample).sr = s.sr := rfl
@[simp] theorem State.drawSample_bc (s : State) : (s.drawSample).bc = s.bc := rfl
@[simp] theorem State.drawSample_cur (s : State) : (s.drawSample).cur = s.cur := rfl
@[simp] theorem State.drawSample_ustep (s : State) : (s.drawSample).ustep = s.ustep := rfl
@[simp] theorem State.drawSample_ack (s : State) : (s.drawSample).ack = s.ack := rfl
@[simp] theorem State.drawSample_rdata (s : State) : (s.drawSample).rdata = s.rdata := rfl
@[simp] theorem State.drawSample_session (s : State) : (s.drawSample).session = s.session := rfl
@[simp] theorem State.drawSample_lc (s : State) : (s.drawSample).lc = s.lc := rfl
@[simp] theorem State.drawSample_fb (s : State) : (s.drawSample).fb = s.fb := rfl
@[simp] theorem State.drawSample_fkind (s : State) : (s.drawSample).fkind = s.fkind := rfl
@[simp] theorem State.drawSample_flen (s : State) : (s.drawSample).flen = s.flen := rfl
@[simp] theorem State.drawSample_err (s : State) : (s.drawSample).err = s.err := rfl
@[simp] theorem State.drawSample_failIdx (s : State) : (s.drawSample).failIdx = s.failIdx := rfl
@[simp] theorem State.drawSample_cfgDioLow (s : State) : (s.drawSample).cfgDioLow = s.cfgDioLow := rfl
@[simp] theorem State.drawSample_cfgClkLow (s : State) : (s.drawSample).cfgClkLow = s.cfgClkLow := rfl
@[simp] theorem State.drawSample_ovr (s : State) : (s.drawSample).ovr = s.ovr := rfl
@[simp] theorem State.drawSample_trace (s : State) : (s.drawSample).trace = s.trace := rfl
@[simp] theorem State.drawSample_rst (s : State) : (s.drawSample).rst = s.rst := rfl
@[simp] theorem State.drawSample_todo (s : State) : (s.drawSample).todo = s.todo := rfl
@[simp] theorem State.drawSample_samples (s : State) : (s.drawSample).samples = s.samples.tail := rfl
@[simp] theorem State.drawSample_inits (s : State) : (s.drawSample).inits = s.inits := rfl
@[simp] theorem State.drawSample_draws (s : State) : (s.drawSample).draws = s.draws + 1 := rfl
@[simp] theorem State.drawSample_turns (s : State) : (s.drawSample).turns = s.turns := rfl
@[simp] theorem State.drawSample_readLog (s : State) : (s.drawSample).readLog = s.readLog := rfl

@[simp] theorem State.drawInit_dirDio (s : State) : (s.drawInit).dirDio = s.dirDio := rfl
@[simp] theorem State.drawInit_dirClk (s : State) : (s.drawInit).dirClk = s.dirClk := rfl
@[simp] theorem State.drawInit_sr (s : State) : (s.drawInit).sr = s.sr := rfl
@[simp] theorem State.drawInit_bc (s : State) : (s.drawInit).bc = s.bc := rfl
@[simp] theorem State.drawInit_cur (s : State) : (s.drawInit).cur = s.cur := rfl
@[simp] theorem State.drawInit_ustep (s : State) : (s.drawInit).ustep = s.ustep := rfl
@[simp] theorem State.drawInit_ack (s : State) : (s.drawInit).ack = s.ack := rfl
@[simp] theorem State.drawInit_rdata (s : State) : (s.drawInit).rdata = s.rdata := rfl
@[simp] theorem State.drawInit_session (s : State) : (s.drawInit).session = s.session := rfl
@[simp] theorem State.drawInit_lc (s : State) : (s.drawInit).lc = s.lc := rfl
@[simp] theorem State.drawInit_fb (s : State) : (s.drawInit).fb = s.fb := rfl
@[simp] theorem State.drawInit_fkind (s : State) : (s.drawInit).fkind = s.fkind := rfl
@[simp] theorem State.drawInit_flen (s : State) : (s.drawInit).flen = s.flen := rfl
@[simp] theorem State.drawInit_err (s : State) : (s.drawInit).err = s.err := rfl
@[simp] theorem State.drawInit_failIdx (s : State) : (s.drawInit).failIdx = s.failIdx := rfl
@[simp] theorem State.drawInit_cfgDioLow (s : State) : (s.drawInit).cfgDioLow = s.cfgDioLow := rfl
@[simp] theorem State.drawInit_cfgClkLow (s : State) : (s.drawInit).cfgClkLow = s.cfgClkLow := rfl
@[simp] theorem State.drawInit_ovr (s : State) : (s.drawInit).ovr = s.ovr := rfl
@[simp] theorem State.drawInit_trace (s : State) : (s.drawInit).trace = s.trace := rfl
@[simp] theorem State.drawInit_rst (s : State) : (s.drawInit).rst = s.rst := rfl
@[simp] theorem State.drawInit_todo (s : State) : (s.drawInit).todo = s.todo := rfl
@[simp] theorem State.drawInit_samples (s : State) : (s.drawInit).samples = s.samples := rfl
@[simp] theorem State.drawInit_inits (s : State) : (s.drawInit).inits = s.inits.tail := rfl
@[simp] theorem State.drawInit_draws (s : State) : (s.drawInit).draws = s.draws + 1 := rfl
@[simp] theorem State.drawInit_turns (s : State) : (s.drawInit).turns = s.turns := rfl
@[simp] theorem State.drawInit_readLog (s : State) : (s.drawInit).readLog = s.readLog := rfl

@[simp] theorem State.accept_dirDio (s : State) : (s.accept).dirDio = s.dirDio := rfl
@[simp] theorem State.accept_dirClk (s : State) : (s.accept).dirClk = s.dirClk := rfl
@[simp] theorem State.accept_sr (s : State) : (s.accept).sr = s.sr := rfl
@[simp] theorem State.accept_bc (s : State) : (s.accept).bc = s.bc := rfl
@[simp] theorem State.accept_cur (s : State) : (s.accept).cur = s.cur := rfl
@[simp] theorem State.accept_ustep (s : State) : (s.accept).ustep = 0 := rfl
@[simp] theorem State.accept_ack (s : State) : (s.accept).ack = s.ack := rfl
@[simp] theorem State.accept_rdata (s : State) : (s.accept).rdata = s.rdata := rfl
@[simp] theorem State.accept_session (s : State) : (s.accept).session = s.session := rfl
@[simp] theorem State.accept_lc (s : State) : (s.accept).lc = s.lc := rfl
@[simp] theorem State.accept_fb (s : State) : (s.accept).fb = s.fb := rfl
@[simp] theorem State.accept_fkind (s : State) : (s.accept).fkind = s.fkind := rfl
@[simp] theorem State.accept_flen (s : State) : (s.accept).flen = s.flen := rfl
@[simp] theorem State.accept_err (s : State) : (s.accept).err = .ok := rfl
@[simp] theorem State.accept_failIdx (s : State) : (s.accept).failIdx = s.failIdx := rfl
@[simp] theorem State.accept_cfgDioLow (s : State) : (s.accept).cfgDioLow = s.cfgDioLow := rfl
@[simp] theorem State.accept_cfgClkLow (s : State) : (s.accept).cfgClkLow = s.cfgClkLow := rfl
@[simp] theorem State.accept_ovr (s : State) : (s.accept).ovr = s.ovr := rfl
@[simp] theorem State.accept_trace (s : State) : (s.accept).trace = s.trace := rfl
@[simp] theorem State.accept_rst (s : State) : (s.accept).rst = s.rst := rfl
@[simp] theorem State.accept_todo (s : State) : (s.accept).todo = [] := rfl
@[simp] theorem State.accept_samples (s : State) : (s.accept).samples = s.samples := rfl
@[simp] theorem State.accept_inits (s : State) : (s.accept).inits = s.inits := rfl
@[simp] theorem State.accept_draws (s : State) : (s.accept).draws = s.draws := rfl
@[simp] theorem State.accept_turns (s : State) : (s.accept).turns = s.turns := rfl
@[simp] theorem State.accept_readLog (s : State) : (s.accept).readLog = s.readLog := rfl

@[simp] theorem State.raise_dirDio (s : State) (e : Err) : (s.raise e).dirDio = s.dirDio := rfl
@[simp] theorem State.raise_dirClk (s : State) (e : Err) : (s.raise e).dirClk = s.dirClk := rfl
@[simp] theorem State.raise_sr (s : State) (e : Err) : (s.raise e).sr = s.sr := rfl
@[simp] theorem State.raise_bc (s : State) (e : Err) : (s.raise e).bc = s.bc := rfl
@[simp] theorem State.raise_cur (s : State) (e : Err) : (s.raise e).cur = s.cur := rfl
@[simp] theorem State.raise_ustep (s : State) (e : Err) : (s.raise e).ustep = s.ustep := rfl
@[simp] theorem State.raise_ack (s : State) (e : Err) : (s.raise e).ack = s.ack := rfl
@[simp] theorem State.raise_rdata (s : State) (e : Err) : (s.raise e).rdata = s.rdata := rfl
@[simp] theorem State.raise_session (s : State) (e : Err) : (s.raise e).session = s.session := rfl
@[simp] theorem State.raise_lc (s : State) (e : Err) : (s.raise e).lc = s.lc := rfl
@[simp] theorem State.raise_fb (s : State) (e : Err) : (s.raise e).fb = s.fb := rfl
@[simp] theorem State.raise_fkind (s : State) (e : Err) : (s.raise e).fkind = s.fkind := rfl
@[simp] theorem State.raise_flen (s : State) (e : Err) : (s.raise e).flen = s.flen := rfl
@[simp] theorem State.raise_err (s : State) (e : Err) : (s.raise e).err = e := rfl
@[simp] theorem State.raise_failIdx (s : State) (e : Err) : (s.raise e).failIdx = s.failIdx := rfl
@[simp] theorem State.raise_cfgDioLow (s : State) (e : Err) : (s.raise e).cfgDioLow = s.cfgDioLow := rfl
@[simp] theorem State.raise_cfgClkLow (s : State) (e : Err) : (s.raise e).cfgClkLow = s.cfgClkLow := rfl
@[simp] theorem State.raise_ovr (s : State) (e : Err) : (s.raise e).ovr = s.ovr := rfl
@[simp] theorem State.raise_trace (s : State) (e : Err) : (s.raise e).trace = s.trace := rfl
@[simp] theorem State.raise_rst (s : State) (e : Err) : (s.raise e).rst = s.rst := rfl
@[simp] theorem State.raise_todo (s : State) (e : Err) : (s.raise e).todo = [] := rfl
@[simp] theorem State.raise_samples (s : State) (e : Err) : (s.raise e).samples = s.samples := rfl
@[simp] theorem State.raise_inits (s : State) (e : Err) : (s.raise e).inits = s.inits := rfl
@[simp] theorem State.raise_draws (s : State) (e : Err) : (s.raise e).draws = s.draws := rfl
@[simp] theorem State.raise_turns (s : State) (e : Err) : (s.raise e).turns = s.turns := rfl
@[simp] theorem State.raise_readLog (s : State) (e : Err) : (s.raise e).readLog = s.readLog := rfl

@[simp] theorem State.endCommand_dirDio (s : State) : (s.endCommand).dirDio = s.dirDio := rfl
@[simp] theorem State.endCommand_dirClk (s : State) : (s.endCommand).dirClk = s.dirClk := rfl
@[simp] theorem State.endCommand_sr (s : State) : (s.endCommand).sr = s.sr := rfl
@[simp] theorem State.endCommand_bc (s : State) : (s.endCommand).bc = s.bc := rfl
@[simp] theorem State.endCommand_cur (s : State) : (s.endCommand).cur = none := rfl
@[simp] theorem State.endCommand_ustep (s : State) : (s.endCommand).ustep = 0 := rfl
@[simp] theorem State.endCommand_ack (s : State) : (s.endCommand).ack = s.ack := rfl
@[simp] theorem State.endCommand_rdata (s : State) : (s.endCommand).rdata = s.rdata := rfl
@[simp] theorem State.endCommand_session (s : State) : (s.endCommand).session = s.session := rfl
@[simp] theorem State.endCommand_lc (s : State) : (s.endCommand).lc = s.lc := rfl
@[simp] theorem State.endCommand_fb (s : State) : (s.endCommand).fb = s.fb := rfl
@[simp] theorem State.endCommand_fkind (s : State) : (s.endCommand).fkind = s.fkind := rfl
@[simp] theorem State.endCommand_flen (s : State) : (s.endCommand).flen = s.flen := rfl
@[simp] theorem State.endCommand_err (s : State) : (s.endCommand).err = s.err := rfl
@[simp] theorem State.endCommand_failIdx (s : State) : (s.endCommand).failIdx = s.failIdx := rfl
@[simp] theorem State.endCommand_cfgDioLow (s : State) : (s.endCommand).cfgDioLow = s.cfgDioLow := rfl
@[simp] theorem State.endCommand_cfgClkLow (s : State) : (s.endCommand).cfgClkLow = s.cfgClkLow := rfl
@[simp] theorem State.endCommand_ovr (s : State) : (s.endCommand).ovr = s.ovr := rfl
@[simp] theorem State.endCommand_trace (s : State) : (s.endCommand).trace = s.trace := rfl
@[simp] theorem State.endCommand_rst (s : State) : (s.endCommand).rst = s.rst := rfl
@[simp] theorem State.endCommand_todo (s : State) : (s.endCommand).todo = [] := rfl
@[simp] theorem State.endCommand_samples (s : State) : (s.endCommand).samples = s.samples := rfl
@[simp] theorem State.endCommand_inits (s : State) : (s.endCommand).inits = s.inits := rfl
@[simp] theorem State.endCommand_draws (s : State) : (s.endCommand).draws = s.draws := rfl
@[simp] theorem State.endCommand_turns (s : State) : (s.endCommand).turns = s.turns := rfl
@[simp] theorem State.endCommand_readLog (s : State) : (s.endCommand).readLog = s.readLog := rfl

@[simp] theorem State.setFrame_dirDio (s : State) (f : Frame) (k : FrameKind) (n : BitVec 3) : (s.setFrame f k n).dirDio = s.dirDio := rfl
@[simp] theorem State.setFrame_dirClk (s : State) (f : Frame) (k : FrameKind) (n : BitVec 3) : (s.setFrame f k n).dirClk = s.dirClk := rfl
@[simp] theorem State.setFrame_sr (s : State) (f : Frame) (k : FrameKind) (n : BitVec 3) : (s.setFrame f k n).sr = s.sr := rfl
@[simp] theorem State.setFrame_bc (s : State) (f : Frame) (k : FrameKind) (n : BitVec 3) : (s.setFrame f k n).bc = s.bc := rfl
@[simp] theorem State.setFrame_cur (s : State) (f : Frame) (k : FrameKind) (n : BitVec 3) : (s.setFrame f k n).cur = s.cur := rfl
@[simp] theorem State.setFrame_ustep (s : State) (f : Frame) (k : FrameKind) (n : BitVec 3) : (s.setFrame f k n).ustep = s.ustep := rfl
@[simp] theorem State.setFrame_ack (s : State) (f : Frame) (k : FrameKind) (n : BitVec 3) : (s.setFrame f k n).ack = s.ack := rfl
@[simp] theorem State.setFrame_rdata (s : State) (f : Frame) (k : FrameKind) (n : BitVec 3) : (s.setFrame f k n).rdata = s.rdata := rfl
@[simp] theorem State.setFrame_session (s : State) (f : Frame) (k : FrameKind) (n : BitVec 3) : (s.setFrame f k n).session = s.session := rfl
@[simp] theorem State.setFrame_lc (s : State) (f : Frame) (k : FrameKind) (n : BitVec 3) : (s.setFrame f k n).lc = s.lc := rfl
@[simp] theorem State.setFrame_fb (s : State) (f : Frame) (k : FrameKind) (n : BitVec 3) : (s.setFrame f k n).fb = f := rfl
@[simp] theorem State.setFrame_fkind (s : State) (f : Frame) (k : FrameKind) (n : BitVec 3) : (s.setFrame f k n).fkind = k := rfl
@[simp] theorem State.setFrame_flen (s : State) (f : Frame) (k : FrameKind) (n : BitVec 3) : (s.setFrame f k n).flen = n := rfl
@[simp] theorem State.setFrame_err (s : State) (f : Frame) (k : FrameKind) (n : BitVec 3) : (s.setFrame f k n).err = s.err := rfl
@[simp] theorem State.setFrame_failIdx (s : State) (f : Frame) (k : FrameKind) (n : BitVec 3) : (s.setFrame f k n).failIdx = s.failIdx := rfl
@[simp] theorem State.setFrame_cfgDioLow (s : State) (f : Frame) (k : FrameKind) (n : BitVec 3) : (s.setFrame f k n).cfgDioLow = s.cfgDioLow := rfl
@[simp] theorem State.setFrame_cfgClkLow (s : State) (f : Frame) (k : FrameKind) (n : BitVec 3) : (s.setFrame f k n).cfgClkLow = s.cfgClkLow := rfl
@[simp] theorem State.setFrame_ovr (s : State) (f : Frame) (k : FrameKind) (n : BitVec 3) : (s.setFrame f k n).ovr = s.ovr := rfl
@[simp] theorem State.setFrame_trace (s : State) (f : Frame) (k : FrameKind) (n : BitVec 3) : (s.setFrame f k n).trace = s.trace := rfl
@[simp] theorem State.setFrame_rst (s : State) (f : Frame) (k : FrameKind) (n : BitVec 3) : (s.setFrame f k n).rst = s.rst := rfl
@[simp] theorem State.setFrame_todo (s : State) (f : Frame) (k : FrameKind) (n : BitVec 3) : (s.setFrame f k n).todo = s.todo := rfl
@[simp] theorem State.setFrame_samples (s : State) (f : Frame) (k : FrameKind) (n : BitVec 3) : (s.setFrame f k n).samples = s.samples := rfl
@[simp] theorem State.setFrame_inits (s : State) (f : Frame) (k : FrameKind) (n : BitVec 3) : (s.setFrame f k n).inits = s.inits := rfl
@[simp] theorem State.setFrame_draws (s : State) (f : Frame) (k : FrameKind) (n : BitVec 3) : (s.setFrame f k n).draws = s.draws := rfl
@[simp] theorem State.setFrame_turns (s : State) (f : Frame) (k : FrameKind) (n : BitVec 3) : (s.setFrame f k n).turns = s.turns := rfl
@[simp] theorem State.setFrame_readLog (s : State) (f : Frame) (k : FrameKind) (n : BitVec 3) : (s.setFrame f k n).readLog = s.readLog := rfl

/-! ### Updates that name a line -/

@[simp] theorem State.setDir_dio_dirDio (s : State) (d : Dir) : (s.setDir .dio d).dirDio = d := rfl
@[simp] theorem State.setDir_dio_dirClk (s : State) (d : Dir) : (s.setDir .dio d).dirClk = s.dirClk := rfl
@[simp] theorem State.setDir_dio_sr (s : State) (d : Dir) : (s.setDir .dio d).sr = s.sr := rfl
@[simp] theorem State.setDir_dio_bc (s : State) (d : Dir) : (s.setDir .dio d).bc = s.bc := rfl
@[simp] theorem State.setDir_dio_cur (s : State) (d : Dir) : (s.setDir .dio d).cur = s.cur := rfl
@[simp] theorem State.setDir_dio_ustep (s : State) (d : Dir) : (s.setDir .dio d).ustep = s.ustep := rfl
@[simp] theorem State.setDir_dio_ack (s : State) (d : Dir) : (s.setDir .dio d).ack = s.ack := rfl
@[simp] theorem State.setDir_dio_rdata (s : State) (d : Dir) : (s.setDir .dio d).rdata = s.rdata := rfl
@[simp] theorem State.setDir_dio_session (s : State) (d : Dir) : (s.setDir .dio d).session = s.session := rfl
@[simp] theorem State.setDir_dio_lc (s : State) (d : Dir) : (s.setDir .dio d).lc = s.lc := rfl
@[simp] theorem State.setDir_dio_fb (s : State) (d : Dir) : (s.setDir .dio d).fb = s.fb := rfl
@[simp] theorem State.setDir_dio_fkind (s : State) (d : Dir) : (s.setDir .dio d).fkind = s.fkind := rfl
@[simp] theorem State.setDir_dio_flen (s : State) (d : Dir) : (s.setDir .dio d).flen = s.flen := rfl
@[simp] theorem State.setDir_dio_err (s : State) (d : Dir) : (s.setDir .dio d).err = s.err := rfl
@[simp] theorem State.setDir_dio_failIdx (s : State) (d : Dir) : (s.setDir .dio d).failIdx = s.failIdx := rfl
@[simp] theorem State.setDir_dio_cfgDioLow (s : State) (d : Dir) : (s.setDir .dio d).cfgDioLow = s.cfgDioLow := rfl
@[simp] theorem State.setDir_dio_cfgClkLow (s : State) (d : Dir) : (s.setDir .dio d).cfgClkLow = s.cfgClkLow := rfl
@[simp] theorem State.setDir_dio_ovr (s : State) (d : Dir) : (s.setDir .dio d).ovr = s.ovr := rfl
@[simp] theorem State.setDir_dio_trace (s : State) (d : Dir) : (s.setDir .dio d).trace = s.trace := rfl
@[simp] theorem State.setDir_dio_rst (s : State) (d : Dir) : (s.setDir .dio d).rst = s.rst := rfl
@[simp] theorem State.setDir_dio_todo (s : State) (d : Dir) : (s.setDir .dio d).todo = s.todo := rfl
@[simp] theorem State.setDir_dio_samples (s : State) (d : Dir) : (s.setDir .dio d).samples = s.samples := rfl
@[simp] theorem State.setDir_dio_inits (s : State) (d : Dir) : (s.setDir .dio d).inits = s.inits := rfl
@[simp] theorem State.setDir_dio_draws (s : State) (d : Dir) : (s.setDir .dio d).draws = s.draws := rfl
@[simp] theorem State.setDir_dio_turns (s : State) (d : Dir) : (s.setDir .dio d).turns = s.turns := rfl
@[simp] theorem State.setDir_dio_readLog (s : State) (d : Dir) : (s.setDir .dio d).readLog = s.readLog := rfl

@[simp] theorem State.setDir_clk_dirDio (s : State) (d : Dir) : (s.setDir .clk d).dirDio = s.dirDio := rfl
@[simp] theorem State.setDir_clk_dirClk (s : State) (d : Dir) : (s.setDir .clk d).dirClk = d := rfl
@[simp] theorem State.setDir_clk_sr (s : State) (d : Dir) : (s.setDir .clk d).sr = s.sr := rfl
@[simp] theorem State.setDir_clk_bc (s : State) (d : Dir) : (s.setDir .clk d).bc = s.bc := rfl
@[simp] theorem State.setDir_clk_cur (s : State) (d : Dir) : (s.setDir .clk d).cur = s.cur := rfl
@[simp] theorem State.setDir_clk_ustep (s : State) (d : Dir) : (s.setDir .clk d).ustep = s.ustep := rfl
@[simp] theorem State.setDir_clk_ack (s : State) (d : Dir) : (s.setDir .clk d).ack = s.ack := rfl
@[simp] theorem State.setDir_clk_rdata (s : State) (d : Dir) : (s.setDir .clk d).rdata = s.rdata := rfl
@[simp] theorem State.setDir_clk_session (s : State) (d : Dir) : (s.setDir .clk d).session = s.session := rfl
@[simp] theorem State.setDir_clk_lc (s : State) (d : Dir) : (s.setDir .clk d).lc = s.lc := rfl
@[simp] theorem State.setDir_clk_fb (s : State) (d : Dir) : (s.setDir .clk d).fb = s.fb := rfl
@[simp] theorem State.setDir_clk_fkind (s : State) (d : Dir) : (s.setDir .clk d).fkind = s.fkind := rfl
@[simp] theorem State.setDir_clk_flen (s : State) (d : Dir) : (s.setDir .clk d).flen = s.flen := rfl
@[simp] theorem State.setDir_clk_err (s : State) (d : Dir) : (s.setDir .clk d).err = s.err := rfl
@[simp] theorem State.setDir_clk_failIdx (s : State) (d : Dir) : (s.setDir .clk d).failIdx = s.failIdx := rfl
@[simp] theorem State.setDir_clk_cfgDioLow (s : State) (d : Dir) : (s.setDir .clk d).cfgDioLow = s.cfgDioLow := rfl
@[simp] theorem State.setDir_clk_cfgClkLow (s : State) (d : Dir) : (s.setDir .clk d).cfgClkLow = s.cfgClkLow := rfl
@[simp] theorem State.setDir_clk_ovr (s : State) (d : Dir) : (s.setDir .clk d).ovr = s.ovr := rfl
@[simp] theorem State.setDir_clk_trace (s : State) (d : Dir) : (s.setDir .clk d).trace = s.trace := rfl
@[simp] theorem State.setDir_clk_rst (s : State) (d : Dir) : (s.setDir .clk d).rst = s.rst := rfl
@[simp] theorem State.setDir_clk_todo (s : State) (d : Dir) : (s.setDir .clk d).todo = s.todo := rfl
@[simp] theorem State.setDir_clk_samples (s : State) (d : Dir) : (s.setDir .clk d).samples = s.samples := rfl
@[simp] theorem State.setDir_clk_inits (s : State) (d : Dir) : (s.setDir .clk d).inits = s.inits := rfl
@[simp] theorem State.setDir_clk_draws (s : State) (d : Dir) : (s.setDir .clk d).draws = s.draws := rfl
@[simp] theorem State.setDir_clk_turns (s : State) (d : Dir) : (s.setDir .clk d).turns = s.turns := rfl
@[simp] theorem State.setDir_clk_readLog (s : State) (d : Dir) : (s.setDir .clk d).readLog = s.readLog := rfl

@[simp] theorem State.setCfgLow_dio_dirDio (s : State) (b : Bool) : (s.setCfgLow .dio b).dirDio = s.dirDio := rfl
@[simp] theorem State.setCfgLow_dio_dirClk (s : State) (b : Bool) : (s.setCfgLow .dio b).dirClk = s.dirClk := rfl
@[simp] theorem State.setCfgLow_dio_sr (s : State) (b : Bool) : (s.setCfgLow .dio b).sr = s.sr := rfl
@[simp] theorem State.setCfgLow_dio_bc (s : State) (b : Bool) : (s.setCfgLow .dio b).bc = s.bc := rfl
@[simp] theorem State.setCfgLow_dio_cur (s : State) (b : Bool) : (s.setCfgLow .dio b).cur = s.cur := rfl
@[simp] theorem State.setCfgLow_dio_ustep (s : State) (b : Bool) : (s.setCfgLow .dio b).ustep = s.ustep := rfl
@[simp] theorem State.setCfgLow_dio_ack (s : State) (b : Bool) : (s.setCfgLow .dio b).ack = s.ack := rfl
@[simp] theorem State.setCfgLow_dio_rdata (s : State) (b : Bool) : (s.setCfgLow .dio b).rdata = s.rdata := rfl
@[simp] theorem State.setCfgLow_dio_session (s : State) (b : Bool) : (s.setCfgLow .dio b).session = s.session := rfl
@[simp] theorem State.setCfgLow_dio_lc (s : State) (b : Bool) : (s.setCfgLow .dio b).lc = s.lc := rfl
@[simp] theorem State.setCfgLow_dio_fb (s : State) (b : Bool) : (s.setCfgLow .dio b).fb = s.fb := rfl
@[simp] theorem State.setCfgLow_dio_fkind (s : State) (b : Bool) : (s.setCfgLow .dio b).fkind = s.fkind := rfl
@[simp] theorem State.setCfgLow_dio_flen (s : State) (b : Bool) : (s.setCfgLow .dio b).flen = s.flen := rfl
@[simp] theorem State.setCfgLow_dio_err (s : State) (b : Bool) : (s.setCfgLow .dio b).err = s.err := rfl
@[simp] theorem State.setCfgLow_dio_failIdx (s : State) (b : Bool) : (s.setCfgLow .dio b).failIdx = s.failIdx := rfl
@[simp] theorem State.setCfgLow_dio_cfgDioLow (s : State) (b : Bool) : (s.setCfgLow .dio b).cfgDioLow = b := rfl
@[simp] theorem State.setCfgLow_dio_cfgClkLow (s : State) (b : Bool) : (s.setCfgLow .dio b).cfgClkLow = s.cfgClkLow := rfl
@[simp] theorem State.setCfgLow_dio_ovr (s : State) (b : Bool) : (s.setCfgLow .dio b).ovr = s.ovr := rfl
@[simp] theorem State.setCfgLow_dio_trace (s : State) (b : Bool) : (s.setCfgLow .dio b).trace = s.trace := rfl
@[simp] theorem State.setCfgLow_dio_rst (s : State) (b : Bool) : (s.setCfgLow .dio b).rst = s.rst := rfl
@[simp] theorem State.setCfgLow_dio_todo (s : State) (b : Bool) : (s.setCfgLow .dio b).todo = s.todo := rfl
@[simp] theorem State.setCfgLow_dio_samples (s : State) (b : Bool) : (s.setCfgLow .dio b).samples = s.samples := rfl
@[simp] theorem State.setCfgLow_dio_inits (s : State) (b : Bool) : (s.setCfgLow .dio b).inits = s.inits := rfl
@[simp] theorem State.setCfgLow_dio_draws (s : State) (b : Bool) : (s.setCfgLow .dio b).draws = s.draws := rfl
@[simp] theorem State.setCfgLow_dio_turns (s : State) (b : Bool) : (s.setCfgLow .dio b).turns = s.turns := rfl
@[simp] theorem State.setCfgLow_dio_readLog (s : State) (b : Bool) : (s.setCfgLow .dio b).readLog = s.readLog := rfl

@[simp] theorem State.setCfgLow_clk_dirDio (s : State) (b : Bool) : (s.setCfgLow .clk b).dirDio = s.dirDio := rfl
@[simp] theorem State.setCfgLow_clk_dirClk (s : State) (b : Bool) : (s.setCfgLow .clk b).dirClk = s.dirClk := rfl
@[simp] theorem State.setCfgLow_clk_sr (s : State) (b : Bool) : (s.setCfgLow .clk b).sr = s.sr := rfl
@[simp] theorem State.setCfgLow_clk_bc (s : State) (b : Bool) : (s.setCfgLow .clk b).bc = s.bc := rfl
@[simp] theorem State.setCfgLow_clk_cur (s : State) (b : Bool) : (s.setCfgLow .clk b).cur = s.cur := rfl
@[simp] theorem State.setCfgLow_clk_ustep (s : State) (b : Bool) : (s.setCfgLow .clk b).ustep = s.ustep := rfl
@[simp] theorem State.setCfgLow_clk_ack (s : State) (b : Bool) : (s.setCfgLow .clk b).ack = s.ack := rfl
@[simp] theorem State.setCfgLow_clk_rdata (s : State) (b : Bool) : (s.setCfgLow .clk b).rdata = s.rdata := rfl
@[simp] theorem State.setCfgLow_clk_session (s : State) (b : Bool) : (s.setCfgLow .clk b).session = s.session := rfl
@[simp] theorem State.setCfgLow_clk_lc (s : State) (b : Bool) : (s.setCfgLow .clk b).lc = s.lc := rfl
@[simp] theorem State.setCfgLow_clk_fb (s : State) (b : Bool) : (s.setCfgLow .clk b).fb = s.fb := rfl
@[simp] theorem State.setCfgLow_clk_fkind (s : State) (b : Bool) : (s.setCfgLow .clk b).fkind = s.fkind := rfl
@[simp] theorem State.setCfgLow_clk_flen (s : State) (b : Bool) : (s.setCfgLow .clk b).flen = s.flen := rfl
@[simp] theorem State.setCfgLow_clk_err (s : State) (b : Bool) : (s.setCfgLow .clk b).err = s.err := rfl
@[simp] theorem State.setCfgLow_clk_failIdx (s : State) (b : Bool) : (s.setCfgLow .clk b).failIdx = s.failIdx := rfl
@[simp] theorem State.setCfgLow_clk_cfgDioLow (s : State) (b : Bool) : (s.setCfgLow .clk b).cfgDioLow = s.cfgDioLow := rfl
@[simp] theorem State.setCfgLow_clk_cfgClkLow (s : State) (b : Bool) : (s.setCfgLow .clk b).cfgClkLow = b := rfl
@[simp] theorem State.setCfgLow_clk_ovr (s : State) (b : Bool) : (s.setCfgLow .clk b).ovr = s.ovr := rfl
@[simp] theorem State.setCfgLow_clk_trace (s : State) (b : Bool) : (s.setCfgLow .clk b).trace = s.trace := rfl
@[simp] theorem State.setCfgLow_clk_rst (s : State) (b : Bool) : (s.setCfgLow .clk b).rst = s.rst := rfl
@[simp] theorem State.setCfgLow_clk_todo (s : State) (b : Bool) : (s.setCfgLow .clk b).todo = s.todo := rfl
@[simp] theorem State.setCfgLow_clk_samples (s : State) (b : Bool) : (s.setCfgLow .clk b).samples = s.samples := rfl
@[simp] theorem State.setCfgLow_clk_inits (s : State) (b : Bool) : (s.setCfgLow .clk b).inits = s.inits := rfl
@[simp] theorem State.setCfgLow_clk_draws (s : State) (b : Bool) : (s.setCfgLow .clk b).draws = s.draws := rfl
@[simp] theorem State.setCfgLow_clk_turns (s : State) (b : Bool) : (s.setCfgLow .clk b).turns = s.turns := rfl
@[simp] theorem State.setCfgLow_clk_readLog (s : State) (b : Bool) : (s.setCfgLow .clk b).readLog = s.readLog := rfl

/-! ### Block reset -/

@[simp] theorem State.resetBlock_dirDio (s : State) (level : Bool) : (s.resetBlock level).dirDio = State.reset.dirDio := rfl
@[simp] theorem State.resetBlock_dirClk (s : State) (level : Bool) : (s.resetBlock level).dirClk = State.reset.dirClk := rfl
@[simp] theorem State.resetBlock_sr (s : State) (level : Bool) : (s.resetBlock level).sr = State.reset.sr := rfl
@[simp] theorem State.resetBlock_bc (s : State) (level : Bool) : (s.resetBlock level).bc = State.reset.bc := rfl
@[simp] theorem State.resetBlock_cur (s : State) (level : Bool) : (s.resetBlock level).cur = State.reset.cur := rfl
@[simp] theorem State.resetBlock_ustep (s : State) (level : Bool) : (s.resetBlock level).ustep = State.reset.ustep := rfl
@[simp] theorem State.resetBlock_ack (s : State) (level : Bool) : (s.resetBlock level).ack = State.reset.ack := rfl
@[simp] theorem State.resetBlock_rdata (s : State) (level : Bool) : (s.resetBlock level).rdata = State.reset.rdata := rfl
@[simp] theorem State.resetBlock_session (s : State) (level : Bool) : (s.resetBlock level).session = State.reset.session := rfl
@[simp] theorem State.resetBlock_lc (s : State) (level : Bool) : (s.resetBlock level).lc = State.reset.lc := rfl
@[simp] theorem State.resetBlock_fb (s : State) (level : Bool) : (s.resetBlock level).fb = State.reset.fb := rfl
@[simp] theorem State.resetBlock_fkind (s : State) (level : Bool) : (s.resetBlock level).fkind = State.reset.fkind := rfl
@[simp] theorem State.resetBlock_flen (s : State) (level : Bool) : (s.resetBlock level).flen = State.reset.flen := rfl
@[simp] theorem State.resetBlock_err (s : State) (level : Bool) : (s.resetBlock level).err = State.reset.err := rfl
@[simp] theorem State.resetBlock_failIdx (s : State) (level : Bool) : (s.resetBlock level).failIdx = State.reset.failIdx := rfl
@[simp] theorem State.resetBlock_cfgDioLow (s : State) (level : Bool) : (s.resetBlock level).cfgDioLow = State.reset.cfgDioLow := rfl
@[simp] theorem State.resetBlock_cfgClkLow (s : State) (level : Bool) : (s.resetBlock level).cfgClkLow = State.reset.cfgClkLow := rfl
@[simp] theorem State.resetBlock_ovr (s : State) (level : Bool) : (s.resetBlock level).ovr = State.reset.ovr := rfl
@[simp] theorem State.resetBlock_trace (s : State) (level : Bool) : (s.resetBlock level).trace = State.reset.trace := rfl
@[simp] theorem State.resetBlock_rst (s : State) (level : Bool) : (s.resetBlock level).rst = level := rfl
@[simp] theorem State.resetBlock_todo (s : State) (level : Bool) : (s.resetBlock level).todo = State.reset.todo := rfl
@[simp] theorem State.resetBlock_samples (s : State) (level : Bool) : (s.resetBlock level).samples = s.samples := rfl
@[simp] theorem State.resetBlock_inits (s : State) (level : Bool) : (s.resetBlock level).inits = s.inits := rfl
@[simp] theorem State.resetBlock_draws (s : State) (level : Bool) : (s.resetBlock level).draws = s.draws := rfl
@[simp] theorem State.resetBlock_turns (s : State) (level : Bool) : (s.resetBlock level).turns = s.turns := rfl
@[simp] theorem State.resetBlock_readLog (s : State) (level : Bool) : (s.resetBlock level).readLog = s.readLog := rfl

end Sys2Proof.Machine
end

