-- ==== Sys2Proof/Laws/Ops.lean ====
section
/-! SUPPORT. What each shared operation can do, said once: running actions and expansions, the bodies of R160 and R170 to
R173, the checks, and the end of a command. -/

namespace Sys2Proof.Machine

/-! ### Running -/

@[simp] theorem runUops_nil (s : State) : runUops [] s = s := rfl

@[simp] theorem runUops_cons (u : Uop) (us : List Uop) (s : State) : runUops (u :: us) s = runUops us (u.perform s) := rfl

theorem runUops_append (us vs : List Uop) (s : State) : runUops (us ++ vs) s = runUops vs (runUops us s) := by
  simp [runUops, List.foldl_append]

theorem items_nil : items [] = [] := rfl

theorem items_cons (u : Uop) (us : List Uop) : items (u :: us) = .op u :: items us := rfl

theorem items_append (us vs : List Uop) : items (us ++ vs) = items us ++ items vs := by simp [items]

/-- Actions at the head of an expansion run first. -/
theorem run_items_append (us : List Uop) (rest : List Item) (s : State) :
    run (items us ++ rest) s = run rest (runUops us s) := by
  induction us generalizing s with
  | nil => rfl
  | cons u us ih => simpa [items_cons, run] using ih (u.perform s)

theorem run_items (us : List Uop) (s : State) : run (items us) s = runUops us s := by
  simpa [items_nil, run] using run_items_append us [] s

/-- A branch whose condition holds goes on. -/
theorem run_guard_pass (c : Cond) (other : List Uop) (rest : List Item) (s : State) (h : c.holds s = true) :
    run (.guard c other :: rest) s = run rest s := by simp [run, h]

/-- A branch whose condition fails takes its other path to the end. -/
theorem run_guard_fail (c : Cond) (other : List Uop) (rest : List Item) (s : State) (h : c.holds s = false) :
    run (.guard c other :: rest) s = runUops other s := by simp [run, h]

/-- `BINIT` with a backend that comes up goes on (R250). -/
theorem run_backendInit_up (other : List Uop) (rest : List Item) (s : State) (h : s.initAnswer = true) :
    run (.backendInit other :: rest) s = run rest s.bInit := by simp [run, h]

/-- `BINIT` with a backend that does not come up takes the other path (R250). -/
theorem run_backendInit_down (other : List Uop) (rest : List Item) (s : State) (h : s.initAnswer = false) :
    run (.backendInit other :: rest) s = runUops other s.bInit := by simp [run, h]

/-- `SETDIO` is one of the two line operations (R11). -/
theorem State.setDio_eq (s : State) (bit : Bool) : s.setDio bit = if bit then s.rel .dio else s.pul .dio := by
  cases bit <;> rfl

/-! ### Bodies -/

/-- What `STARTB` does (R170). -/
theorem runUops_startB (s : State) :
    runUops startB s =
      { s with
        dirDio := .pulled, dirClk := .pulled, session := true
        trace := s.trace ++ startEvents, ustep := s.ustep + 6 } := by
  simp [runUops, startB, Uop.perform, State.rel, State.pul, State.setDir, State.emit, startEvents]

/-- What `STOPB` does (R171). -/
theorem runUops_stopB (s : State) :
    runUops stopB s =
      { s with
        dirDio := .released, dirClk := .released, session := false
        trace := s.trace ++ stopEvents, ustep := s.ustep + 6 } := by
  simp [runUops, stopB, Uop.perform, State.rel, State.pul, State.setDir, State.emit, stopEvents]

theorem State.answer_zero (s : State) : s.answer 0 = s.samples.head?.getD (Config.sample s.draws) := by
  simp [State.answer, List.head?_eq_getElem?]

/-- Drawing an answer moves the later ones up. -/
theorem State.answer_of_drawn (s t : State) (n k : Nat) (hs : t.samples = s.samples.drop n) (hd : t.draws = s.draws + n) :
    t.answer k = s.answer (n + k) := by
  simp [State.answer, hs, hd, List.getElem?_drop, Nat.add_assoc]

/-- What `VBODY` does (R160). -/
theorem runUops_vBody (s : State) :
    runUops vBody s =
      { s with
        dirDio := .released, dirClk := .released
        cfgDioLow := !s.answer 0, cfgClkLow := !s.answer 1
        samples := s.samples.drop 2, draws := s.draws + 2
        trace := s.trace ++ validateEvents (s.answer 0) (s.answer 1), ustep := s.ustep + 5 } := by
  simp [runUops, vBody, Uop.perform, State.rel, State.smp, State.setDir, State.setCfgLow, State.emit,
    State.drawSample, State.answer, validateEvents, ← List.drop_one, List.drop_drop]

/-- What one turn of `WBODY`'s loop does (R172). -/
theorem runUops_bitB (s : State) :
    runUops bitB s =
      { s with
        dirDio := if s.sr.getLsbD 0 then .released else .pulled
        dirClk := .pulled, sr := s.sr >>> 1, bc := s.bc + 1
        trace := s.trace ++ bitEvents (s.sr.getLsbD 0), ustep := s.ustep + 5 } := by
  by_cases h : s.sr[0] = true <;>
    simp [runUops, bitB, Uop.perform, State.setDio, State.rel, State.pul, State.setDir, State.emit, bitEvents, h]

/-- What `n + 1` turns of `WBODY`'s loop do (R172). -/
theorem runUops_bits (n : Nat) (s : State) :
    runUops (List.replicate (n + 1) bitB).flatten s =
      { s with
        dirDio := if s.sr.getLsbD n then .released else .pulled
        dirClk := .pulled, sr := s.sr >>> (n + 1), bc := s.bc + BitVec.ofNat 4 (n + 1)
        trace := s.trace ++ (List.range (n + 1)).flatMap (fun i => bitEvents (s.sr.getLsbD i))
        ustep := s.ustep + 5 * (n + 1) } := by
  induction n with
  | zero => simp [runUops_bitB]
  | succ n ih =>
    rw [List.replicate_succ', List.flatten_append, runUops_append, ih]
    simp [runUops_bitB, List.range_succ, BitVec.ofNat_add, BitVec.add_assoc, Nat.mul_add,
      Nat.add_assoc, BitVec.shiftRight_add]

/-- What the ACK phase of `WBODY` does (R172). -/
theorem runUops_ackB (s : State) :
    runUops ackB s =
      { s with
        dirDio := .released, dirClk := .pulled, ack := !s.answer 0
        samples := s.samples.drop 1, draws := s.draws + 1
        trace := s.trace ++ [.rel .dio, .dly .half, .rel .clk, .dly .half, .smp .dio (s.answer 0), .pul .clk]
        ustep := s.ustep + 6 } := by
  simp [runUops, ackB, Uop.perform, State.rel, State.pul, State.smp, State.setDir, State.emit, State.drawSample,
    State.answer]

/-- What `WBODY` does once `SR` is loaded and `BC` is 0 (R172). -/
theorem runUops_shiftOutB (s : State) (h : s.bc = 0) :
    runUops shiftOutB s =
      { s with
        dirDio := .released, dirClk := .pulled, ack := !s.answer 0, sr := 0, bc := 8
        samples := s.samples.drop 1, draws := s.draws + 1
        trace := s.trace ++ byteEvents s.sr (s.answer 0), ustep := s.ustep + 46 } := by
  have hz : s.sr >>> 8 = 0 := by
    ext i hi
    simp
  rw [shiftOutB, runUops_append, runUops_bits 7, runUops_ackB]
  simp [h, hz, byteEvents, State.answer, Nat.add_assoc]

/-- What `WBODY(b)` does (R172). -/
theorem runUops_wBody (b : Byte) (s : State) :
    runUops (wBody b) s =
      { s with
        dirDio := .released, dirClk := .pulled, ack := !s.answer 0, sr := 0, bc := 8
        samples := s.samples.drop 1, draws := s.draws + 1
        trace := s.trace ++ byteEvents b (s.answer 0), ustep := s.ustep + 46 } := by
  rw [wBody, runUops_cons, runUops_shiftOutB _ rfl]
  simp [Uop.perform, State.answer]

/-- `WBODY` of a frame byte is `WBODY` of that byte (R230). -/
theorem runUops_wBodyFrame (k : Fin 5) (s : State) : runUops (wBodyFrame k) s = runUops (wBody (s.fb.get k)) s := rfl

/-- What `SBODY(c)` does (R173). -/
theorem runUops_sBody (c : Byte) (s : State) :
    runUops (sBody c) s =
      { s with
        dirDio := .released, dirClk := .released, session := false, ack := !s.answer 0, sr := 0, bc := 8
        samples := s.samples.drop 1, draws := s.draws + 1
        trace := s.trace ++ commandEvents c (s.answer 0), ustep := s.ustep + 58 } := by
  rw [sBody, runUops_append, runUops_append, runUops_startB, runUops_wBody, runUops_stopB]
  simp [commandEvents, State.answer, Nat.add_assoc]

/-! ### Checks -/

/-- A command with a failing check writes `ERR` and has nothing left to do (R272). -/
theorem issueWith_error (cs : List Check) (body : List Item) (s : State) (e : Err) (h : firstError cs s = some e) :
    issueWith cs body s = { s with err := e, ustep := 0, todo := [] } := by
  simp [issueWith, h, State.accept, State.raise]

/-- A command whose checks pass takes up its expansion with `ERR = OK` (R273). -/
theorem issueWith_ok (cs : List Check) (body : List Item) (s : State) (h : firstError cs s = none) :
    issueWith cs body s = { s with err := .ok, ustep := 0, todo := body } := by
  simp [issueWith, h, State.accept]

/-- A command that is turned away changes nothing but `ERR` (R272). -/
theorem complete_issueWith_error (cs : List Check) (body : List Item) (s : State) (e : Err)
    (h : firstError cs s = some e) :
    (issueWith cs body s).complete = { s with err := e, cur := none, ustep := 0, todo := [] } := by
  rw [issueWith_error cs body s e h]
  simp [State.complete, run, State.endCommand]

/-- A command of plain actions whose checks pass runs them and ends. -/
theorem complete_issueWith_items (cs : List Check) (us : List Uop) (s : State) (h : firstError cs s = none) :
    (issueWith cs (items us) s).complete =
      (runUops us { s with err := .ok, ustep := 0, todo := items us }).endCommand := by
  rw [issueWith_ok cs _ s h]
  simp [State.complete, run_items]

/-! ### Frame buffer -/

@[simp] theorem Frame.get_0 (f : Frame) : f.get 0 = f.b0 := rfl

@[simp] theorem Frame.get_1 (f : Frame) : f.get 1 = f.b1 := rfl

@[simp] theorem Frame.get_2 (f : Frame) : f.get 2 = f.b2 := rfl

@[simp] theorem Frame.get_3 (f : Frame) : f.get 3 = f.b3 := rfl

@[simp] theorem Frame.get_4 (f : Frame) : f.get 4 = f.b4 := rfl

end Sys2Proof.Machine
end

