-- ==== Sys2Proof/Laws/PerInstr.lean ====
section
/-! SUPPORT. The per-instruction family `ReservedBits`: the word of every command names one of the fourteen opcodes and
leaves the reserved fields of the word (R101) at 0. -/

namespace Sys2Proof.Laws.ReservedBits

/-- R101, R104, R106: the word's `OPC` is 1 to 14, and `RSV1` and `RSV2` are 0. -/
def Statement (i : Instr) : Prop :=
  (encode i).extractLsb' 28 4 ≠ 0x0 ∧ (encode i).extractLsb' 28 4 ≠ 0xF ∧
    (encode i).extractLsb' 25 3 = 0 ∧ (encode i).extractLsb' 16 8 = 0

/-- The fields as parts of the word's number. -/
theorem statement_of_toNat (i : Instr) (h1 : (encode i).toNat / 2 ^ 28 % 2 ^ 4 ≠ 0)
    (h2 : (encode i).toNat / 2 ^ 28 % 2 ^ 4 ≠ 15) (h3 : (encode i).toNat / 2 ^ 25 % 2 ^ 3 = 0)
    (h4 : (encode i).toNat / 2 ^ 16 % 2 ^ 8 = 0) : Statement i := by
  refine ⟨fun h => h1 ?_, fun h => h2 ?_, ?_, ?_⟩
  · rw [← toNat_field, h]; rfl
  · rw [← toNat_field, h]; rfl
  · rw [← BitVec.toNat_inj, toNat_field]; exact h3
  · rw [← BitVec.toNat_inj, toNat_field]; exact h4

theorem release (l : Line) : Statement (.release l) := by cases l <;> (unfold Statement; decide)

theorem pull (l : Line) : Statement (.pull l) := by cases l <;> (unfold Statement; decide)

theorem read (l : Line) : Statement (.read l) := by cases l <;> (unfold Statement; decide)

theorem delay (k : DelayKind) : Statement (.delay k) := by cases k <;> (unfold Statement; decide)

theorem validate : Statement .validate := by unfold Statement; decide

theorem start : Statement .start := by unfold Statement; decide

theorem stop : Statement .stop := by unfold Statement; decide

theorem writeByte (b : Byte) : Statement (.writeByte b) := by
  have hb := b.isLt
  apply statement_of_toNat <;> rw [encode, toNat_formatB] <;> simp <;> omega

theorem sendCommand (b : Byte) : Statement (.sendCommand b) := by
  have hb := b.isLt
  apply statement_of_toNat <;> rw [encode, toNat_formatB] <;> simp <;> omega

theorem encodeNumeric (v : Int) : Statement (.encodeNumeric v) := by
  have hv := (BitVec.ofInt 16 v).isLt
  have ho : BitVec.toNat (OfNat.ofNat 10 : BitVec 4) = 10 := rfl
  apply statement_of_toNat <;> rw [encode, toNat_formatV, ho] <;> omega

theorem encodeError : Statement .encodeError := by unfold Statement; decide

theorem writeFrame : Statement .writeFrame := by unfold Statement; decide

theorem init : Statement .init := by unfold Statement; decide

theorem shutdown : Statement .shutdown := by unfold Statement; decide

end Sys2Proof.Laws.ReservedBits
end

