-- ==== Sys2Proof/Laws/Sequencer.lean ====
section
/-! SUPPORT. The sequencer's turns, said once: a turn of one entry leaves the end of the command where it was, so what
holds at a command's end is not disturbed by how far the command has come (R38). -/

namespace Sys2Proof.Machine

/-! ### What is left to do has no part in an action -/

theorem Uop.perform_todo (u : Uop) (s : State) (l : List Item) :
    u.perform { s with todo := l } = { u.perform s with todo := l } := by
  cases u with
  | rel x => cases x <;> rfl
  | pul x => cases x <;> rfl
  | smpCfg x => cases x <;> rfl
  | dly _ => rfl
  | setDio => rfl
  | smpRead _ => rfl
  | smpAck => rfl
  | bDeinit => rfl
  | load _ => rfl
  | loadFrame _ => rfl
  | shift => rfl
  | setSession _ => rfl
  | setLc _ => rfl
  | setFailIdx _ => rfl
  | setErr _ => rfl

theorem runUops_todo (us : List Uop) (s : State) (l : List Item) :
    runUops us { s with todo := l } = { runUops us s with todo := l } := by
  induction us generalizing s with
  | nil => rfl
  | cons u us ih => rw [runUops_cons, runUops_cons, Uop.perform_todo, ih]

theorem Cond.holds_todo (c : Cond) (s : State) (l : List Item) : c.holds { s with todo := l } = c.holds s := by
  cases c <;> rfl

theorem run_todo (is : List Item) (s : State) (l : List Item) :
    run is { s with todo := l } = { run is s with todo := l } := by
  induction is generalizing s with
  | nil => rfl
  | cons i is ih =>
    cases i with
    | op u =>
      show run is (u.perform { s with todo := l }) = _
      rw [Uop.perform_todo, ih]
      rfl
    | guard c other =>
      simp only [run, Cond.holds_todo]
      split
      · rw [ih]
      · rw [runUops_todo]
    | backendInit other =>
      have hb : State.bInit { s with todo := l } = { s.bInit with todo := l } := rfl
      have hi : State.initAnswer { s with todo := l } = s.initAnswer := rfl
      simp only [run, hi, hb]
      split
      · rw [ih]
      · rw [runUops_todo]

/-! ### What no action touches -/

/-- An action leaves `CUR`, RST and the agents' turns alone. -/
theorem Uop.perform_keeps (u : Uop) (s : State) :
    (u.perform s).cur = s.cur ∧ (u.perform s).rst = s.rst ∧ (u.perform s).turns = s.turns := by
  cases u with
  | rel x => cases x <;> exact ⟨rfl, rfl, rfl⟩
  | pul x => cases x <;> exact ⟨rfl, rfl, rfl⟩
  | smpCfg x => cases x <;> exact ⟨rfl, rfl, rfl⟩
  | dly _ => exact ⟨rfl, rfl, rfl⟩
  | setDio => exact ⟨rfl, rfl, rfl⟩
  | smpRead _ => exact ⟨rfl, rfl, rfl⟩
  | smpAck => exact ⟨rfl, rfl, rfl⟩
  | bDeinit => exact ⟨rfl, rfl, rfl⟩
  | load _ => exact ⟨rfl, rfl, rfl⟩
  | loadFrame _ => exact ⟨rfl, rfl, rfl⟩
  | shift => exact ⟨rfl, rfl, rfl⟩
  | setSession _ => exact ⟨rfl, rfl, rfl⟩
  | setLc _ => exact ⟨rfl, rfl, rfl⟩
  | setFailIdx _ => exact ⟨rfl, rfl, rfl⟩
  | setErr _ => exact ⟨rfl, rfl, rfl⟩

theorem Item.perform_keeps (i : Item) (rest : List Item) (s : State) :
    (i.perform rest s).cur = s.cur ∧ (i.perform rest s).rst = s.rst := by
  cases i <;> simp [Item.perform, Uop.perform_keeps, State.bInit]

theorem issueWith_keeps (cs : List Check) (body : List Item) (s : State) :
    (issueWith cs body s).cur = s.cur ∧ (issueWith cs body s).rst = s.rst := by
  unfold issueWith
  split <;> exact ⟨rfl, rfl⟩

/-- Taking up a command leaves it latched (R82). -/
theorem issue_keeps (i : Instr) (s t : State) (h : issue i s = .next t) : t.cur = s.cur ∧ t.rst = s.rst := by
  cases i
  case writeFrame =>
    simp only [issue, issueWriteFrame] at h
    split at h
    · cases h
      exact ⟨rfl, rfl⟩
    · split at h
      · cases h
        exact ⟨rfl, rfl⟩
      · cases h
  all_goals
    cases h
    exact issueWith_keeps _ _ _

/-! ### Turns -/

/-- The atomic command is: take it up, then run what it left to do, to the end (R38). -/
theorem exec_eq_issue (i : Instr) (s : State) :
    exec i s =
      match issue i s with
      | .next t => .next t.complete
      | .fault f => .fault f
      | .refused r => .refused r := by
  cases i <;> rfl

/-- One entry performed and the rest run is the whole run. -/
theorem Item.perform_complete (i : Item) (rest : List Item) (s : State) :
    (i.perform rest s).complete = (run (i :: rest) s).endCommand := by
  have hend : ∀ (t : State) (l : List Item), State.endCommand { t with todo := l } = t.endCommand := fun _ _ => rfl
  cases i with
  | op u =>
    simp only [Item.perform, State.complete]
    rw [run_todo, hend]
    rfl
  | guard c other =>
    simp only [Item.perform, State.complete]
    rw [run_todo, hend]
    cases h : c.holds s
    · rw [run_guard_fail _ _ _ _ h, if_neg (by simp)]
      exact congrArg _ (run_items other s)
    · rw [run_guard_pass _ _ _ _ h, if_pos rfl]
  | backendInit other =>
    simp only [Item.perform, State.complete]
    rw [run_todo, hend]
    cases h : s.initAnswer
    · rw [run_backendInit_down _ _ _ h, if_neg (by simp)]
      exact congrArg _ (run_items other _)
    · rw [run_backendInit_up _ _ _ h, if_pos rfl]

theorem finishTurn_endIfDone (s : State) (w : Word) (hr : s.rst = false) (hc : s.cur = some w) :
    finishTurn s.endIfDone = .next s.complete := by
  unfold State.endIfDone
  split
  · rename_i h
    simp [finishTurn, hr, State.complete, h, run]
  · rename_i h
    cases ht : s.todo with
    | nil => exact absurd ht h
    | cons a b => simp [finishTurn, hr, hc, ht]

/-- A turn of one entry that answers leaves the end of the command where it was. -/
theorem finishTurn_of_microTurn (s t : State) (h : microTurn s = .next t) : finishTurn t = finishTurn s := by
  unfold microTurn at h
  split at h
  · cases h
    rfl
  · rename_i hr
    simp only [Bool.not_eq_true] at hr
    split at h
    · cases h
      rfl
    · rename_i w hc
      split at h
      · rename_i ht
        split at h
        · rename_i i hd
          split at h
          · rename_i u hu
            cases h
            obtain ⟨k1, k2⟩ := issue_keeps i s u hu
            rw [finishTurn_endIfDone u w (by rw [k2, hr]) (by rw [k1, hc])]
            simp [finishTurn, hr, hc, ht, hd, exec_eq_issue, hu]
          · cases h
          · cases h
        · rename_i hd
          cases h
          simp [finishTurn, hr, hc, ht, hd, State.rejectWord]
      · rename_i it rest ht
        cases h
        obtain ⟨k1, k2⟩ := Item.perform_keeps it rest s
        rw [finishTurn_endIfDone _ w (by rw [k2, hr]) (by rw [k1, hc]), Item.perform_complete]
        simp [finishTurn, hr, hc, ht, State.complete]

/-- What a step can do, by whose turn it is. -/
theorem step_cases (s : State) :
    (s.turns = [] ∧ step s = finishTurn s) ∨
    (∃ ts a, s.turns = .access a :: ts ∧ step s = accessTurn a { s with turns := ts }) ∨
    (∃ ts b, s.turns = .rst b :: ts ∧ step s = .next (rstTurn b { s with turns := ts })) ∨
    (∃ ts, s.turns = .micro :: ts ∧ step s = microTurn { s with turns := ts }) ∨
    (∃ ts, s.turns = .finish :: ts ∧ step s = finishTurn { s with turns := ts }) := by
  cases h : s.turns with
  | nil => exact .inl ⟨rfl, by simp [step, h]⟩
  | cons t ts =>
    refine .inr ?_
    cases t with
    | access a => exact .inl ⟨ts, a, rfl, by simp [step, h, Turn.perform]⟩
    | rst b => exact .inr (.inl ⟨ts, b, rfl, by simp [step, h, Turn.perform]⟩)
    | micro => exact .inr (.inr (.inl ⟨ts, rfl, by simp [step, h, Turn.perform]⟩))
    | finish => exact .inr (.inr (.inr ⟨ts, rfl, by simp [step, h, Turn.perform]⟩))

end Sys2Proof.Machine
end

