-- ==== Sys2Proof/Laws/Session.lean ====
section
/-! SUPPORT. What WRITE_FRAME's data burst does (R230): every byte acknowledged, or the first NACK at some place of it. -/

namespace Sys2Proof.Machine

/-- `STARTB` and then bytes of the frame buffer, each acknowledged (R170, R230). -/
theorem run_burst_acked (ks : List (Fin 5)) (rest : List Item) (s : State)
    (h : ∀ j < ks.length, s.answer j = false) :
    run (ks.flatMap burstByte ++ rest) s =
      run rest
        { s with
          dirDio := if ks.isEmpty then s.dirDio else .released
          dirClk := if ks.isEmpty then s.dirClk else .pulled
          ack := if ks.isEmpty then s.ack else true
          sr := if ks.isEmpty then s.sr else 0
          bc := if ks.isEmpty then s.bc else 8
          samples := s.samples.drop ks.length, draws := s.draws + ks.length
          trace := s.trace ++ ks.flatMap (fun k => byteEvents (s.fb.get k) false)
          ustep := s.ustep + 46 * ks.length } := by
  induction ks generalizing s with
  | nil => simp
  | cons k ks ih =>
    have h0 := h 0 (by simp)
    have hrest : ∀ j < ks.length, s.answer (j + 1) = false := fun j hj => h (j + 1) (by simp; omega)
    rw [List.flatMap_cons, burstByte, List.append_assoc, List.append_assoc, run_items_append, runUops_wBodyFrame,
      runUops_wBody]
    simp only [List.cons_append, List.nil_append, run, Cond.holds, h0, Bool.not_false, if_true]
    rw [ih]
    · cases ks <;> simp [Nat.add_assoc, Nat.mul_add, Nat.add_comm, Nat.add_left_comm]
    · intro j hj
      rw [State.answer_of_drawn s _ 1 j (by simp) (by simp), Nat.add_comm]
      exact hrest j hj

/-- A frame byte that is not acknowledged ends the burst: STOP, the index, E_PROTOCOL (R230). -/
theorem run_burst_nacked (k : Fin 5) (rest : List Item) (s : State) (h : s.answer 0 = true) :
    run (burstByte k ++ rest) s =
      { s with
        dirDio := .released, dirClk := .released, session := false, ack := false, sr := 0, bc := 8
        failIdx := BitVec.ofNat 3 k.val, err := .protocol
        samples := s.samples.drop 1, draws := s.draws + 1
        trace := s.trace ++ byteEvents (s.fb.get k) true ++ stopEvents
        ustep := s.ustep + 52 } := by
  rw [burstByte, List.append_assoc, run_items_append, runUops_wBodyFrame, runUops_wBody, List.cons_append,
    run_guard_fail _ _ _ _ (by simp [Cond.holds, h]), nackPath, runUops_append, runUops_stopB]
  simp [Uop.perform, h, Nat.add_assoc]

/-- The indices below `n` are those below `k`, then `k`, then some more, for `k < n` (R230). -/
theorem frameIndices_split (n : Nat) (k : Fin 5) (hk : k.val < n) (hn : n ≤ 5) :
    ∃ more, frameIndices n = frameIndices k.val ++ k :: more := by
  have key : ∀ (m : Fin 6) (j : Fin 5), j.val < m.val →
      frameIndices m.val = frameIndices j.val ++ j :: (frameIndices m.val).drop (j.val + 1) := by decide
  exact ⟨_, key ⟨n, by omega⟩ k hk⟩

theorem length_frameIndices (n : Nat) (hn : n ≤ 5) : (frameIndices n).length = n := by
  simp [frameIndices, hn]

end Sys2Proof.Machine
end

