-- ==== Sys2Proof/Tests/Slice0.lean ====
section
/-! SUPPORT. The model's own tests. The expected values are the spec's: the words of 30_encoding.md and the vectors of
95_test_vectors.md, whose ids (K1, G2, …) stand in the docstrings. After them, one witness for each statement with
hypotheses. -/

namespace Sys2Proof.Tests

open Sys2Proof.Machine

/-! ### Well-formedness -/

/-- R103: the range of `VAL` ends at -32768 and 32767; a value outside it is refused. -/
theorem test_wellFormed_val :
    (Instr.encodeNumeric (-32768)).wellFormed = true ∧ (Instr.encodeNumeric 32767).wellFormed = true ∧
      (Instr.encodeNumeric (-32769)).wellFormed = false ∧ (Instr.encodeNumeric 32768).wellFormed = false := by decide

/-! ### Decoding, from the fields of R101: `OPC`, `RSV1`, `L`, `RSV2`, `IMM` -/

/-- Format L (K3, K4). -/
theorem test_decode_formatL :
    decode (0b0001#4 ++ 0b000#3 ++ 0b0#1 ++ 0b00000000#8 ++ 0b0000000000000000#16) = .ok (.release .dio) ∧
    decode (0b0001#4 ++ 0b000#3 ++ 0b1#1 ++ 0b00000000#8 ++ 0b0000000000000000#16) = .ok (.release .clk) ∧
    decode (0b0010#4 ++ 0b000#3 ++ 0b0#1 ++ 0b00000000#8 ++ 0b0000000000000000#16) = .ok (.pull .dio) ∧
    decode (0b0010#4 ++ 0b000#3 ++ 0b1#1 ++ 0b00000000#8 ++ 0b0000000000000000#16) = .ok (.pull .clk) ∧
    decode (0b0011#4 ++ 0b000#3 ++ 0b0#1 ++ 0b00000000#8 ++ 0b0000000000000000#16) = .ok (.read .dio) ∧
    decode (0b0011#4 ++ 0b000#3 ++ 0b1#1 ++ 0b00000000#8 ++ 0b0000000000000000#16) = .ok (.read .clk) := by decide

/-- Format K (K8, K9). -/
theorem test_decode_formatK :
    decode (0b0100#4 ++ 0b000#3 ++ 0b0#1 ++ 0b00000000#8 ++ 0b0000000000000000#16) = .ok (.delay .half) ∧
    decode (0b0100#4 ++ 0b000#3 ++ 0b0#1 ++ 0b00000000#8 ++ 0b0000000000000001#16) = .ok (.delay .settle) := by decide

/-- Format B (K12, K14). -/
theorem test_decode_formatB :
    decode (0b1000#4 ++ 0b000#3 ++ 0b0#1 ++ 0b00000000#8 ++ 0b0000000011111111#16) = .ok (.writeByte 0xFF) ∧
    decode (0b1001#4 ++ 0b000#3 ++ 0b0#1 ++ 0b00000000#8 ++ 0b0000000010001111#16) = .ok (.sendCommand 0x8F) := by
  decide

/-- Format V (K15, E26, E25). -/
theorem test_decode_formatV :
    decode (0b1010#4 ++ 0b000#3 ++ 0b0#1 ++ 0b00000000#8 ++ 0b1111111111111111#16) = .ok (.encodeNumeric (-1)) ∧
    decode (0b1010#4 ++ 0b000#3 ++ 0b0#1 ++ 0b00000000#8 ++ 0b1000000000000000#16) = .ok (.encodeNumeric (-32768)) ∧
    decode (0b1010#4 ++ 0b000#3 ++ 0b0#1 ++ 0b00000000#8 ++ 0b0111111111111111#16) = .ok (.encodeNumeric 32767) := by
  decide

/-- Format N (K18, K19, K20). -/
theorem test_decode_formatN :
    decode (0b0101#4 ++ 0b000#3 ++ 0b0#1 ++ 0b00000000#8 ++ 0b0000000000000000#16) = .ok .validate ∧
    decode (0b0110#4 ++ 0b000#3 ++ 0b0#1 ++ 0b00000000#8 ++ 0b0000000000000000#16) = .ok .start ∧
    decode (0b0111#4 ++ 0b000#3 ++ 0b0#1 ++ 0b00000000#8 ++ 0b0000000000000000#16) = .ok .stop ∧
    decode (0b1011#4 ++ 0b000#3 ++ 0b0#1 ++ 0b00000000#8 ++ 0b0000000000000000#16) = .ok .encodeError ∧
    decode (0b1100#4 ++ 0b000#3 ++ 0b0#1 ++ 0b00000000#8 ++ 0b0000000000000000#16) = .ok .writeFrame ∧
    decode (0b1101#4 ++ 0b000#3 ++ 0b0#1 ++ 0b00000000#8 ++ 0b0000000000000000#16) = .ok .init ∧
    decode (0b1110#4 ++ 0b000#3 ++ 0b0#1 ++ 0b00000000#8 ++ 0b0000000000000000#16) = .ok .shutdown := by decide

/-- The illegal words K1, K2, K5, K6, K7, K10, K11, K13, K16, K17, K21, each with its reason. -/
theorem test_decode_illegal :
    decode 0x00000000 = .error .opcode ∧ decode 0xF0000000 = .error .opcode ∧
    decode 0x12000000 = .error .reserved1 ∧ decode 0x10010000 = .error .reserved2 ∧
    decode 0x10000001 = .error .immediate ∧ decode 0x40000002 = .error .immediate ∧
    decode 0x41000000 = .error .lineSelect ∧ decode 0x80000100 = .error .immediate ∧
    decode 0xA0010000 = .error .reserved2 ∧ decode 0x61000000 = .error .lineSelect ∧
    decode 0xE0000001 = .error .immediate := by decide

/-- The host's entry to the decoder reads a table row's word, and refuses what is no instruction. -/
theorem test_decodeTableWord :
    decodeTableWord 32 0x11000000 = some (.release .clk) ∧ decodeTableWord 32 0xA000FFCE = some (.encodeNumeric (-50)) ∧
      decodeTableWord 32 0x00000000 = none := by decide

/-! ### Helpers -/

/-- The state after a step, if there is one. -/
def after : Host.Outcome State Fault Refusal → Option State
  | .next t => some t
  | .fault _ => none
  | .refused _ => none

/-- One step that runs the word. -/
def runs (w : Nat) (s : State) : Option State := after (step (s.withFetchWord 32 w))

/-- READY idle, with the coming answers of `Sample`. -/
def idle (samples : List Bool) : State := { State.reset with lc := .ready, samples := samples }

/-- After START from READY idle (P1). -/
def opened (samples : List Bool) : State :=
  { idle samples with session := true, dirDio := .pulled, dirClk := .pulled }

/-- READY idle with E14's frame in `FB`. -/
def framed (samples : List Bool) : State :=
  { idle samples with fb := ⟨0xC0, 0x00, 0x5B, 0xCF, 0x6D⟩, fkind := .numeric, flen := 5 }

/-- After reset, with the coming answers of the backend and of `Sample`. -/
def fresh (inits samples : List Bool) : State := { State.reset with inits := inits, samples := samples }

/-! ### One step of each command -/

/-- G9 and G1. -/
theorem test_release :
    (runs 0x10000000 (idle [])).map (fun t => (statusWord t, t.trace)) = some (0x00000040, [.rel .dio]) ∧
      (runs 0x10000000 State.reset).map (fun t => (statusWord t, t.trace)) = some (0x00000200, []) := by decide

/-- G2 and G7. -/
theorem test_pull :
    (runs 0x20000000 (idle [])).map (fun t => (statusWord t, t.trace)) = some (0x00000050, [.pul .dio]) ∧
      (runs 0x21000000 (idle [])).map (fun t => (statusWord t, t.trace)) = some (0x00000060, [.pul .clk]) := by decide

/-- G5. -/
theorem test_read :
    (runs 0x30000000 (idle [true])).map (fun t => (statusWord t, t.trace)) = some (0x00000044, [.smp .dio true]) := by
  decide

/-- G3 and G8. -/
theorem test_read_pulled :
    (runs 0x30000000 { idle [] with dirDio := .pulled }).map (fun t => (statusWord t, t.trace)) =
        some (0x00000850, []) ∧
      (runs 0x31000000 { idle [] with dirClk := .pulled }).map (fun t => (statusWord t, t.trace)) =
        some (0x00000860, []) := by decide

/-- G10, G11, G12. -/
theorem test_delay :
    (runs 0x40000000 (idle [])).map (fun t => (statusWord t, t.trace)) = some (0x00000040, [.dly .half]) ∧
      (runs 0x40000001 (idle [])).map (fun t => (statusWord t, t.trace)) = some (0x00000040, [.dly .settle]) ∧
      (runs 0x40000000 { idle [] with lc := .off }).map statusWord = some 0x000002C0 := by decide

/-- V1 to V4: `d`, `c` and the STATUS after. -/
theorem test_validate :
    (runs 0x50000000 (idle [true, true])).map statusWord = some 0x00000040 ∧
      (runs 0x50000000 (idle [true, false])).map statusWord = some 0x00020440 ∧
      (runs 0x50000000 (idle [false, true])).map statusWord = some 0x00010440 ∧
      (runs 0x50000000 (idle [false, false])).map statusWord = some 0x00030440 := by decide

/-- V5 and V6. -/
theorem test_validate_refused :
    (runs 0x50000000 (opened [])).map (fun t => (statusWord t, t.trace)) = some (0x00000978, []) ∧
      (runs 0x50000000 State.reset).map (fun t => (statusWord t, t.trace)) = some (0x00000200, []) := by decide

/-- P1, P7, P12. -/
theorem test_start :
    (runs 0x60000000 (idle [])).map (fun t => (statusWord t, t.trace)) =
        some (0x00000078, [.rel .dio, .rel .clk, .dly .half, .pul .dio, .dly .half, .pul .clk]) ∧
      (runs 0x60000000 (opened [])).map statusWord = some 0x00000978 ∧
      (runs 0x60000000 State.reset).map statusWord = some 0x00000200 := by decide

/-- P2 (after a WRITE_BYTE that was acknowledged) and P11. -/
theorem test_stop :
    (runs 0x70000000 { opened [] with dirDio := .released, ack := true }).map (fun t => (statusWord t, t.trace)) =
        some (0x00000042, [.pul .dio, .dly .half, .rel .clk, .dly .half, .rel .dio, .dly .half]) ∧
      (runs 0x70000000 (idle [])).map statusWord = some 0x00000040 := by decide

/-- P3: the 46 events of the byte 0xC0. -/
theorem test_write_byte_events :
    (runs 0x800000C0 (opened [false])).map (fun t => (statusWord t, t.trace)) =
      some (0x0000006A,
        [.pul .dio, .dly .half, .rel .clk, .dly .half, .pul .clk,
          .pul .dio, .dly .half, .rel .clk, .dly .half, .pul .clk,
          .pul .dio, .dly .half, .rel .clk, .dly .half, .pul .clk,
          .pul .dio, .dly .half, .rel .clk, .dly .half, .pul .clk,
          .pul .dio, .dly .half, .rel .clk, .dly .half, .pul .clk,
          .pul .dio, .dly .half, .rel .clk, .dly .half, .pul .clk,
          .rel .dio, .dly .half, .rel .clk, .dly .half, .pul .clk,
          .rel .dio, .dly .half, .rel .clk, .dly .half, .pul .clk,
          .rel .dio, .dly .half, .rel .clk, .dly .half, .smp .dio false, .pul .clk]) := by decide

/-- P5 and P6. -/
theorem test_write_byte_nack :
    (runs 0x800000FF (opened [true])).map (fun t => (statusWord t, t.trace.length)) = some (0x00000068, 46) ∧
      (runs 0x800000FF (idle [])).map (fun t => (statusWord t, t.trace.length)) = some (0x00000940, 0) := by decide

/-- P9, P10, P8. -/
theorem test_send_command :
    (runs 0x90000040 (idle [false])).map (fun t => (statusWord t, t.trace.length, t.trace.count (.dly .half))) =
        some (0x00000042, 58, 23) ∧
      (runs 0x90000040 (idle [true])).map statusWord = some 0x00000040 ∧
      (runs 0x90000040 (opened [])).map statusWord = some 0x00000978 := by decide

/-- E10, E17, E26: vectors that hold for every digit table. FRAME_LO, FRAME_HI and STATUS. -/
theorem test_encode_numeric :
    (runs 0xA000FFCE (idle [])).map (fun t => (frameLo t, frameHi t, statusWord t)) =
        some (0xED3F40C0, 0x0000003F, 0x00540040) ∧
      (runs 0xA00001F9 (idle [])).map (fun t => (frameLo t, frameHi t, statusWord t)) =
        some (0xBF6D00C0, 0x0000006D, 0x00540040) ∧
      (runs 0xA0008000 (idle [])).map (fun t => (frameLo t, frameHi t, statusWord t)) =
        some (0x713F40C0, 0x00000038, 0x00580040) := by decide

/-- E14, E18, E20, E21 with the default digit table. -/
theorem test_numericFrame :
    numericFrame {} 235 = (⟨0xC0, 0x00, 0x5B, 0xCF, 0x6D⟩, .numeric) ∧
      numericFrame {} 999 = (⟨0xC0, 0x00, 0x6F, 0xEF, 0x6F⟩, .numeric) ∧
      numericFrame {} 1000 = (⟨0xC0, 0x00, 0x3F, 0x71, 0x38⟩, .overflow) ∧
      numericFrame {} (-1000) = (⟨0xC0, 0x40, 0x3F, 0x71, 0x38⟩, .overflow) := by decide

/-- X2 and X1. -/
theorem test_encode_error :
    (runs 0xB0000000 (framed [])).map (fun t => (frameLo t, frameHi t, statusWord t)) =
        some (0x606079C0, 0x00000000, 0x004C0040) ∧
      (runs 0xB0000000 State.reset).map statusWord = some 0x004C0000 := by decide

/-- W1 and W4. -/
theorem test_write_frame :
    (runs 0xC0000000 (framed [false, false, false, false, false, false, false])).map
        (fun t => (statusWord t, t.trace.length)) = some (0x00540042, 358) ∧
      (runs 0xC0000000 (framed [false, false, false, true])).map (fun t => (statusWord t, t.trace.length)) =
        some (0x00542540, 208) := by decide +kernel

/-- W8, W9, W10. -/
theorem test_write_frame_refused :
    (runs 0xC0000000 (idle [])).map (fun t => (statusWord t, t.trace)) = some (0x00000640, []) ∧
      (runs 0xC0000000 { framed [] with session := true, dirDio := .pulled, dirClk := .pulled }).map
        (fun t => (statusWord t, t.trace)) = some (0x00540978, []) ∧
      (runs 0xC0000000 { framed [] with lc := .off }).map (fun t => (statusWord t, t.trace)) =
        some (0x005402C0, []) := by decide

/-- L1, L2, L5. -/
theorem test_init :
    (runs 0xD0000000 (fresh [true] [true, true])).map (fun t => (statusWord t, t.trace)) =
        some (0x00000040,
          [.bInit true, .rel .dio, .rel .clk, .dly .settle, .smp .dio true, .smp .clk true]) ∧
      (runs 0xD0000000 (fresh [true] [true, false])).map (fun t => (statusWord t, t.trace)) =
        some (0x00020480,
          [.bInit true, .rel .dio, .rel .clk, .dly .settle, .smp .dio true, .smp .clk false, .bDeinit]) ∧
      (runs 0xD0000000 (fresh [false] [])).map (fun t => (statusWord t, t.trace)) =
        some (0x00000380, [.bInit false]) := by decide

/-- L6: INIT after INIT. -/
theorem test_init_twice :
    (runs 0xD0000000 (idle [])).map (fun t => (statusWord t, t.trace)) = some (0x00000740, []) := by decide

/-- L10 and L8. -/
theorem test_shutdown :
    (runs 0xE0000000 (opened [])).map (fun t => (statusWord t, t.trace)) =
        some (0x000000C0, [.rel .dio, .rel .clk, .bDeinit]) ∧
      (runs 0xE0000000 { idle [] with lc := .off }).map (fun t => (statusWord t, t.trace)) =
        some (0x000007C0, []) := by decide

/-- Part 4: from READY idle an illegal word leaves STATUS 0x00000140. -/
theorem test_illegal :
    (runs 0x61000000 (idle [])).map (fun t => (statusWord t, t.trace)) = some (0x00000140, []) := by decide

/-! ### Port, sequencer, reset -/

/-- H2, H3: reads of the four registers after reset. -/
theorem test_reads_after_reset :
    (after (step { State.reset with turns := [.access (.read 0 32)] })).map (·.readLog) = some [(0, 0)] ∧
      (after (step { State.reset with turns := [.access (.read 4 32)] })).map (·.readLog) = some [(1, 0)] ∧
      (after (step { State.reset with turns := [.access (.read 8 32)] })).map (·.readLog) = some [(2, 0)] ∧
      (after (step { State.reset with turns := [.access (.read 12 32)] })).map (·.readLog) = some [(3, 0)] := by decide

/-- H1: a second CMD write while a command runs is dropped and sets `OVR`. -/
theorem test_dropped_write :
    (after (step { idle [] with cur := some 0xC0000000, turns := [.access (.write 0 32 0x60000000)] })).map
      (fun t => (t.cur, t.ovr, t.err)) = some (some 0xC0000000, true, .ok) := by decide

/-- R38, R300: one entry of START, and a reset in the middle of it. -/
theorem test_micro_and_reset :
    (after (step { idle [] with cur := some 0x60000000, turns := [.micro] })).map
        (fun t => (t.busy, t.todo.length, t.trace)) = some (true, 7, []) ∧
      (after (step { idle [] with cur := some 0x60000000, todo := items startB, turns := [.micro] })).map
        (fun t => (t.ustep, t.todo.length, t.trace)) = some (1, 6, [.rel .dio]) ∧
      (after (step { opened [] with cur := some 0x60000000, todo := [.op (.pul .clk)], turns := [.rst true] })).map
        (fun t => (t.rst, t.busy, statusWord t)) = some (true, false, 0) := by decide

/-- R107, R108: lines of the assembler. -/
theorem test_assembler :
    assembleWords "show 235 ; boot".toList = some [0xA00000EB, 0xC0000000] ∧
      assembleWords "ENCODE_NUMERIC 0xFFCE".toList = some [0xA000FFCE] ∧
      assembleWords "ENCODE_NUMERIC -32768".toList = some [0xA0008000] ∧
      assembleWords "SETDIO 0".toList = some [0x20000000] ∧
      assembleWords "WRITE_BYTE 256".toList = none ∧
      assembleWords "ENCODE_NUMERIC 32768".toList = none := by decide

/-! ### Witnesses: the hypotheses of each statement are met together, at the boundaries of their ranges -/

/-- A command latched and not begun, with the sequencer to act. -/
def latched (w : Word) (s : State) : State := { s with cur := some w }

theorem witness_DecodeEncodeRoundTrip :
    (Instr.encodeNumeric (-32768)).wellFormed = true ∧ (Instr.encodeNumeric 32767).wellFormed = true ∧
      (Instr.writeByte 0xFF).wellFormed = true := by decide

theorem witness_EncodeDecodeRoundTrip :
    decode 0xA0008000 = .ok (.encodeNumeric (-32768)) ∧ decode 0xA0007FFF = .ok (.encodeNumeric 32767) := by decide

/-- One word for each case of the list, at the lowest bit that makes it illegal, and one that is in no case. -/
theorem witness_IllegalWordsAreThoseListed :
    (decode 0x0FFFFFFF).toOption = none ∧ (decode 0xF0000000).toOption = none ∧
      (decode 0x12000000).toOption = none ∧ (decode 0xA0010000).toOption = none ∧
      (decode 0x41000000).toOption = none ∧ (decode 0x5000_0001).toOption = none ∧
      (decode 0x40000002).toOption = none ∧ (decode 0x90000100).toOption = none ∧
      (decode 0x31000000).toOption = some (.read .clk) := by decide

theorem witness_IllegalWordWritesErrOnly :
    (latched 0x61000000 (opened [])).rst = false ∧ (latched 0x61000000 (opened [])).cur = some 0x61000000 ∧
      (latched 0x61000000 (opened [])).todo = [] ∧ decode 0x61000000 = .error .lineSelect := by decide

theorem witness_AssembledLinesAreWellFormed :
    assembleLine "SHOW -32768".toList = some [.encodeNumeric (-32768), .writeFrame] ∧
      assembleLine "write_byte 0xff".toList = some [.writeByte 0xFF] ∧ assembleLine "; nothing".toList = some [] := by
  decide

theorem witness_StepRunsTheLatchedCommand :
    (latched 0x60000000 (idle [])).rst = false ∧ (latched 0x60000000 (idle [])).cur = some 0x60000000 ∧
      (latched 0x60000000 (idle [])).todo = [] ∧ decode 0x60000000 = .ok .start ∧
      (latched 0x60000000 (idle [])).turns = [] ∧
      ({ latched 0x60000000 (idle []) with turns := [.finish, .micro] } : State).turns = .finish :: [.micro] := by
  decide

theorem witness_StepRunsThePlacedWord :
    decodeTableWord 32 0x21000000 = some (.pull .clk) ∧ decodeTableWord 32 0xA000FFFF = some (.encodeNumeric (-1)) := by
  decide

theorem witness_CmdWriteStartsACommand :
    let s : State := { idle [] with turns := [.access (.write 0 32 0xD0000000)] };
    s.rst = false ∧ s.cur = none ∧ s.turns = .access (.write 0 32 0xD0000000) :: [] := by decide

theorem witness_CmdWriteWhileBusyOnlySetsOvr :
    let s : State := { latched 0xC0000000 (framed []) with turns := [.access (.write 0 32 0x60000000)] };
    s.rst = false ∧ s.cur = some 0xC0000000 ∧ s.turns = .access (.write 0 32 0x60000000) :: [] := by decide

theorem witness_DroppedWriteLeavesTheCommand :
    ∃ t, finishTurn (latched 0x60000000 (idle [])) = .next t := ⟨_, rfl⟩

theorem witness_CommandsEndIdle : ∃ t, exec .start (latched 0x60000000 (idle [])) = .next t := ⟨_, rfl⟩

theorem witness_OtherPortWritesAreIgnored :
    (∀ o ∈ [4#4, 8#4, 12#4],
      ({ idle [] with turns := [.access (.write o 32 0x60000000)] } : State).turns =
        .access (.write o 32 0x60000000) :: []) ∧
      4#4 ∈ [4#4, 8#4, 12#4] ∧ 8#4 ∈ [4#4, 8#4, 12#4] ∧ 12#4 ∈ [4#4, 8#4, 12#4] := by decide

theorem witness_IdleReadsReturnTheRegisters :
    ∀ a ∈ [0#2, 1#2, 2#2, 3#2],
      let s : State := { framed [] with turns := [.access (.read (a ++ 0#2) 32)] };
      s.rst = false ∧ s.cur = none ∧ s.turns = .access (.read (a ++ 0#2) 32) :: [] := by decide

theorem witness_BusyStatusReadFixesBusyAndOvr :
    let s : State := { latched 0xC0000000 (framed []) with turns := [.access (.read 4 32)] };
    s.rst = false ∧ s.cur = some 0xC0000000 ∧ s.turns = .access (.read 4 32) :: [] := by decide

/-- A width other than 32 at a multiple of 4, and 32 bits at each kind of offset that is none, for both accesses. -/
theorem witness_OtherAccessesAreRefused :
    ((16 ≠ 32 ∨ (4#4).toNat % 4 ≠ 0) ∧
      ({ idle [] with turns := [.access (.read 4 16)] } : State).turns = .access (.read 4 16) :: []) ∧
      ((32 ≠ 32 ∨ (1#4).toNat % 4 ≠ 0) ∧
        ({ idle [] with turns := [.access (.write 1 32 0)] } : State).turns = .access (.write 1 32 0) :: []) ∧
      (32 ≠ 32 ∨ (15#4).toNat % 4 ≠ 0) := by decide

theorem witness_RstResetsTheBlock :
    ({ latched 0xC0000000 (framed []) with turns := [.rst true] } : State).turns = .rst true :: [] ∧
      (({ opened [] with rst := true, turns := [.rst false] } : State).rst = true ∧
        ({ opened [] with rst := true, turns := [.rst false] } : State).turns = .rst false :: []) ∧
      ({ opened [] with rst := true, turns := [.access (.write 0 32 0xD0000000)] } : State).turns =
        .access (.write 0 32 0xD0000000) :: [] := by decide

theorem witness_ReleaseResult : (idle []).lc = .ready ∧ (opened []).lc = .ready := by decide

theorem witness_PullResult : (idle []).lc = .ready ∧ (opened []).lc = .ready := by decide

theorem witness_ReadResult :
    (idle []).lc = .ready ∧ (match Line.dio with | .dio => (idle []).dirDio | .clk => (idle []).dirClk) = .released ∧
      (match Line.clk with | .dio => (idle []).dirDio | .clk => (idle []).dirClk) = .released := by decide

theorem witness_ReadAdmitsEitherLevel :
    (idle []).lc = .ready ∧ (idle []).dirDio = .released ∧ (idle []).dirClk = .released := by decide

theorem witness_DelayResult : (idle []).lc = .ready := by decide

theorem witness_ValidateResult : (idle [true, false]).lc = .ready ∧ (idle [true, false]).session = false := by decide

theorem witness_StartResult : (idle []).lc = .ready ∧ (idle []).session = false := by decide

theorem witness_StopResult : (idle []).lc = .ready ∧ (opened []).lc = .ready := by decide

theorem witness_WriteByteResult : (opened [false]).lc = .ready ∧ (opened [false]).session = true := by decide

theorem witness_SendCommandResult : (idle [true]).lc = .ready ∧ (idle [true]).session = false := by decide

theorem witness_WriteByteOnTheWire :
    (opened []).lc = .ready ∧ (opened []).session = true ∧ (opened []).dirClk = .pulled := by decide

/-- The ends of the range of `v`, zero, and both sides of the threshold; the digits of 999. -/
theorem witness_NumericFrameShowsTheValue :
    ((-32768 : Int) ≤ -32768 ∧ (-32768 : Int) ≤ 32767) ∧ ((-32768 : Int) ≤ 32767 ∧ (32767 : Int) ≤ 32767) ∧
      (0 : Int).natAbs ≤ 999 ∧ (-999 : Int).natAbs ≤ 999 ∧ 1000 ≤ (1000 : Int).natAbs ∧ 1000 ≤ (-32768 : Int).natAbs ∧
      (-999 : Int).natAbs = 100 * (9 : Fin 10).val + 10 * (9 : Fin 10).val + (9 : Fin 10).val ∧
      Config.dig.seg 9 = Config.dig.seg 9 := ⟨by decide, by decide, by decide, by decide, by decide, by decide, by decide, rfl⟩

theorem witness_NumericFramesTellValuesApart :
    (999 : Int).natAbs ≤ 999 ∧ (-999 : Int).natAbs ≤ 999 ∧
      ∃ t, exec (.encodeNumeric 999) (idle []) = .next t ∧
        ∃ u, exec (.encodeNumeric 999) (framed []) = .next u ∧ t.fb = u.fb :=
  ⟨by decide, by decide, _, rfl, _, rfl, rfl⟩

/-- Five bytes, and the boundary of a length of 0 with a frame kind that no run pairs with it. -/
theorem witness_WriteFrameAcked :
    (let s := framed [true, false, false, false, false, false, true];
      s.lc = .ready ∧ s.session = false ∧ s.fkind ≠ .none ∧ s.flen.toNat ≤ 5 ∧
        ∀ k < s.flen.toNat, s.answer (k + 1) = false) ∧
      (let s : State := { framed [] with flen := 0 };
        s.lc = .ready ∧ s.session = false ∧ s.fkind ≠ .none ∧ s.flen.toNat ≤ 5 ∧
          ∀ k < s.flen.toNat, s.answer (k + 1) = false) := by decide

/-- A NACK on the first byte and on the last. -/
theorem witness_WriteFrameNacked :
    (let s := framed [false, true];
      s.lc = .ready ∧ s.session = false ∧ s.fkind ≠ .none ∧ s.flen.toNat ≤ 5 ∧ (0 : Fin 5).val < s.flen.toNat ∧
        (∀ j < (0 : Fin 5).val, s.answer (j + 1) = false) ∧ s.answer ((0 : Fin 5).val + 1) = true) ∧
      (let s := framed [false, false, false, false, false, true];
        s.lc = .ready ∧ s.session = false ∧ s.fkind ≠ .none ∧ s.flen.toNat ≤ 5 ∧ (4 : Fin 5).val < s.flen.toNat ∧
          (∀ j < (4 : Fin 5).val, s.answer (j + 1) = false) ∧ s.answer ((4 : Fin 5).val + 1) = true) := by decide

/-- The two lengths above 5. -/
theorem witness_WriteFrameStopsOnALongFrame :
    ∀ n ∈ [6#3, 7#3],
      let s : State := { framed [] with flen := n };
      s.lc = .ready ∧ s.session = false ∧ s.fkind ≠ .none ∧ 5 < s.flen.toNat := by decide

/-- Both clauses: all bytes acknowledged, and a NACK on the last byte. -/
theorem witness_WriteFrameEventCounts :
    (let s := framed [false, false, false, false, false, false, false];
      s.lc = .ready ∧ s.session = false ∧ s.fkind ≠ .none ∧ s.flen.toNat ≤ 5 ∧
        ∀ k < s.flen.toNat, s.answer (k + 1) = false) ∧
      (let s := framed [false, false, false, false, false, true];
        s.lc = .ready ∧ s.session = false ∧ s.fkind ≠ .none ∧ s.flen.toNat ≤ 5 ∧ 4 < s.flen.toNat ∧
          (∀ j < 4, s.answer (j + 1) = false) ∧ s.answer (4 + 1) = true) := by decide

theorem witness_WriteFrameOnTheWire :
    (let s := framed [false, false, false, false, false, false, false];
      s.lc = .ready ∧ s.session = false ∧ s.fkind ≠ .none ∧ s.flen.toNat ≤ 5 ∧ s.pins = .idle ∧
        ∀ k < s.flen.toNat, s.answer (k + 1) = false) ∧
      (let s := framed [true, true];
        s.lc = .ready ∧ s.session = false ∧ s.fkind ≠ .none ∧ s.flen.toNat ≤ 5 ∧ s.pins = .idle ∧ 0 < s.flen.toNat ∧
          (∀ j < 0, s.answer (j + 1) = false) ∧ s.answer (0 + 1) = true) := by decide

theorem witness_WriteFrameDelaysAreSeparated :
    ∃ t, exec .writeFrame { framed [false, true] with dirDio := .pulled } = .next t := ⟨_, rfl⟩

/-- The clause of the backend that does not come up, and the four levels of the other. -/
theorem witness_InitResult :
    ((fresh [false] []).lc = .uninit ∧ (fresh [false] []).initAnswer = false) ∧
      ∀ d ∈ [true, false], ∀ c ∈ [true, false],
        (fresh [true] [d, c]).lc = .uninit ∧ (fresh [true] [d, c]).initAnswer = true ∧
          d = (fresh [true] [d, c]).samples[0]?.getD (Config.sample ((fresh [true] [d, c]).draws + 1)) ∧
          c = (fresh [true] [d, c]).samples[1]?.getD (Config.sample ((fresh [true] [d, c]).draws + 2)) := by decide

/-- All fitted and no peer; one pull-up missing. -/
theorem witness_InitChecksThePullUps :
    (let s := fresh [true] [true, true];
      s.lc = .uninit ∧ s.inits.head? = some true ∧
        s.samples = busLevel true false .released :: busLevel true false .released :: []) ∧
      (let s := fresh [true] [true, false];
        s.lc = .uninit ∧ s.inits.head? = some true ∧
          s.samples = busLevel true false .released :: busLevel false false .released :: []) := by decide

theorem witness_ShutdownResult : (idle []).lc = .ready ∧ (opened []).lc = .ready := by decide

theorem witness_LifecycleTransitions :
    (∃ t, exec .init (fresh [true] [true, true]) = .next t ∧ t.lc = .ready) ∧
      (∃ t, exec .shutdown (idle []) = .next t ∧ t.lc = .off) ∧
      ∃ t, exec .start (idle []) = .next t ∧ t.lc = .ready := ⟨⟨_, rfl, rfl⟩, ⟨_, rfl, rfl⟩, ⟨_, rfl, rfl⟩⟩

/-- Each code that R275's checks raise. -/
theorem witness_PreExecutionErrorsWriteErrOnly :
    preError (.release .dio) State.reset = some .notReady ∧ preError .init (idle []) = some .lifecycle ∧
      preError .start (opened []) = some .session ∧ preError (.writeByte 0) (idle []) = some .session ∧
      preError .writeFrame (idle []) = some .noFrame ∧ preError (.read .clk) (opened []) = some .readPulled := by
  decide

theorem witness_CommandsKeepUnmarkedFields :
    (∃ t, exec (.writeByte 0x5A) (opened [false]) = .next t) ∧ Field.session ∉ mayWrite (.writeByte 0x5A) ∧
      Field.frame ∉ mayWrite .writeFrame ∧ Field.dir ∉ mayWrite .encodeError := ⟨⟨_, rfl⟩, by decide, by decide, by decide⟩

theorem witness_CommandsKeepTheRest :
    (∃ t, exec .encodeError (framed []) = .next t) ∧ (∀ b, Instr.encodeError ≠ .writeByte b) ∧
      (∀ b, Instr.encodeError ≠ .sendCommand b) ∧ Instr.encodeError ≠ .writeFrame :=
  ⟨⟨_, rfl⟩, fun b h => Instr.noConfusion h, fun b h => Instr.noConfusion h, by decide⟩

/-- The state after START, between commands, has the invariants. -/
theorem opened_quiet : Quiet (opened []) := by
  refine ⟨by decide, by decide, by decide, by decide, by decide, fun _ => rfl, by decide, by decide⟩

/-- Between commands, and with a command that a `micro` turn has begun. -/
theorem witness_StepKeepsQuiet :
    Settles Quiet (opened []) ∧ (∃ t, step (opened []) = .next t) ∧
      Settles Quiet { opened [] with cur := some 0x21000000, todo := [.op (.pul .clk)] } ∧
      ∃ t, step { opened [] with cur := some 0x21000000, todo := [.op (.pul .clk)] } = .next t := by
  refine ⟨opened_quiet, ⟨_, rfl⟩, ?_, ⟨_, rfl⟩⟩
  refine ⟨by decide, by decide, by decide, by decide, by decide, fun _ => rfl, by decide, by decide⟩

theorem witness_QuietCommandsComplete : Quiet (opened []) := opened_quiet

theorem witness_StepKeepsTraceTellingThePins :
    let s : State := { opened [] with trace := [.pul .dio, .pul .clk], turns := [.micro] };
    replay .idle s.trace = s.pins ∧ ∃ t, step s = .next t := ⟨by decide, _, rfl⟩

theorem witness_StepKeepsWireFaithful :
    let s : State := { idle [true] with trace := [.smp .dio true], cur := some 0x30000000, turns := [.finish] };
    Settles Quiet s ∧ Settles WireFaithful s ∧ ∃ t, step s = .next t := by
  refine ⟨?_, ⟨by decide, by decide⟩, _, rfl⟩
  refine ⟨by decide, by decide, by decide, by decide, by decide, fun _ => rfl, by decide, by decide⟩

/-- INIT half done in a failing run: the backend is up and CLK reads LOW. -/
theorem witness_StepKeepsNoTrafficUnvalidated :
    let s : State :=
      { fresh [] [true, false] with trace := [.bInit true], cur := some 0xD0000000, todo := initBody.tail,
                                    turns := [.micro] };
    Settles Quiet s ∧ Settles NoTrafficUnvalidated s ∧ ∃ t, step s = .next t := by
  refine ⟨?_, ?_, _, rfl⟩
  · refine ⟨by decide, by decide, by decide, by decide, by decide, fun _ => rfl, by decide, by decide⟩
  · intro _ l
    cases l <;> decide

theorem witness_TraceGrowsAndOvrStays :
    let s : State := { latched 0x20000000 (idle []) with ovr := true, turns := [.micro] };
    (∀ u ∈ s.turns.head?, u.notReset = true) ∧ (∃ t, step s = .next t) ∧ s.ovr = true :=
  ⟨by decide, ⟨_, rfl⟩, by decide⟩

end Sys2Proof.Tests
end

/-! PROOF. What a receiver sees of a byte (R75, R172): runs of events are read one after the other, each data bit is one
clock pulse that leaves CLK Pulled again, and the ACK phase is the ninth. -/

namespace Sys2Proof.Machine

/-! ### Runs of events in sequence -/

theorem replay_append (p : Pins) (es fs : List Event) : replay p (es ++ fs) = replay (replay p es) fs :=
  List.foldl_append

/-- A receiver reads the second run from the pins the first one leaves. -/
theorem wireItems_append (p : Pins) (es fs : List Event) :
    wireItems p (es ++ fs) = wireItems p es ++ wireItems (replay p es) fs := by
  induction es generalizing p with
  | nil => rfl
  | cons e es ih =>
    have hreplay : replay p (e :: es) = replay (e.drive p) es := rfl
    rw [List.cons_append, wireItems, wireItems, hreplay, ih]
    cases e.transition p with
    | none => rfl
    | some l => cases l <;> (dsimp only; split <;> rfl)

/-! ### A byte -/

/-- A data bit leaves CLK Pulled, as it found it (R172). -/
theorem replay_bitEvents_clk (p : Pins) (bit : Bool) : (replay p (bitEvents bit)).clk = .pulled := by
  cases bit <;> rfl

/-- DIO changes while CLK is LOW, so a data bit is one clock pulse with its level and nothing else (R75). -/
theorem wireItems_bitEvents (p : Pins) (bit : Bool) (h : p.clk = .pulled) :
    wireItems p (bitEvents bit) = [.clocked bit] := by
  obtain ⟨dio, clk⟩ := p
  subst h
  cases dio <;> cases bit <;> rfl

/-- Data bits in sequence are their clock pulses in the same order, and CLK is Pulled after them. -/
theorem wireItems_bits (bits : List Bool) (p : Pins) (h : p.clk = .pulled) :
    wireItems p (bits.flatMap bitEvents) = bits.map .clocked ∧
      (replay p (bits.flatMap bitEvents)).clk = .pulled := by
  induction bits generalizing p with
  | nil => exact ⟨rfl, h⟩
  | cons bit bits ih =>
    obtain ⟨hitems, hclk⟩ := ih (replay p (bitEvents bit)) (replay_bitEvents_clk p bit)
    rw [List.flatMap_cons, wireItems_append, replay_append, wireItems_bitEvents p bit h, hitems]
    exact ⟨rfl, hclk⟩

/-- The ACK phase is one clock pulse with DIO left to the slave (R75), whatever the sample reads. -/
theorem wireItems_ackEvents (p : Pins) (a : Bool) (h : p.clk = .pulled) :
    wireItems p [.rel .dio, .dly .half, .rel .clk, .dly .half, .smp .dio a, .pul .clk] = [.clocked true] := by
  obtain ⟨dio, clk⟩ := p
  subst h
  cases dio <;> rfl

/-- With CLK Pulled, the events of a byte are the nine clock pulses of R75. -/
theorem wireItems_byteEvents (b : Byte) (a : Bool) (p : Pins) (h : p.clk = .pulled) :
    wireItems p (byteEvents b a) = byteItems b := by
  obtain ⟨hitems, hclk⟩ := wireItems_bits ((List.range 8).map b.getLsbD) p h
  rw [List.flatMap_map] at hitems hclk
  rw [byteEvents, wireItems_append, hitems, wireItems_ackEvents _ a hclk, List.map_map]
  rfl

/-! ### WRITE_BYTE -/

/-- WRITE_BYTE past its checks runs `WBODY(b)` and ends (R176). -/
theorem exec_writeByte_of_session (b : Byte) (s : State) (hlc : s.lc = .ready) (hses : s.session = true) :
    exec (.writeByte b) s =
      .next (runUops (wBody b) { s with err := .ok, ustep := 0, todo := items (wBody b) }).endCommand := by
  have hchecks : firstError [.ready, .session true] s = none := by
    simp [firstError, Check.passes, hlc, hses]
  exact congrArg Host.Outcome.next (complete_issueWith_items _ _ s hchecks)

/-- Settles O32: WRITE_BYTE appends the events of its byte, and those are nine clock pulses to a receiver. -/
theorem writeByteOnTheWire : Obligations.WriteByteOnTheWire := by
  intro b s hlc hses hclk
  refine ⟨_, byteEvents b (s.answer 0), exec_writeByte_of_session b s hlc hses, ?_, ?_⟩
  · rw [runUops_wBody]
    rfl
  · exact wireItems_byteEvents b (s.answer 0) s.pins hclk

end Sys2Proof.Machine

/-! PROOF. What a command can do, said once (R38, R272, R273): its checks and its expansion as data, the three ways it
can end, induction over an expansion, and what no turn of the sequencer touches. -/

namespace Sys2Proof.Machine

/-! ### Commands as data -/

/-- The checks of a command, in R275's order. -/
def commandChecks : Instr → List Check
  | .release _ | .pull _ | .delay _ | .stop => [.ready]
  | .read l => [.ready, .released l]
  | .validate | .start | .sendCommand _ => [.ready, .session false]
  | .writeByte _ => [.ready, .session true]
  | .encodeNumeric _ | .encodeError => []
  | .writeFrame => [.ready, .session false, .framePresent]
  | .init => [.lifecycle .uninit]
  | .shutdown => [.lifecycle .ready]

/-- The expansion of a command (R38), with a frame of `n` bytes in the buffer. -/
def expansion (n : Nat) : Instr → List Item
  | .release l => items [.rel l]
  | .pull l => items [.pul l]
  | .read l => items [.smpRead l]
  | .delay k => items [.dly k]
  | .validate => items vBody ++ [.guard .linesHigh [.setErr .config]]
  | .start => items startB
  | .stop => items stopB
  | .writeByte b => items (wBody b)
  | .sendCommand b => items (sBody b)
  | .encodeNumeric _ | .encodeError => []
  | .writeFrame => writeFrameBody n
  | .init => initBody
  | .shutdown => shutdownBody

/-- What the encode commands leave in `FB`, `FKIND` and `FLEN` (R44, R199). -/
def EncodedFrame (f : Frame) (k : FrameKind) (n : BitVec 3) : Prop :=
  f.b0 = addrCmd ∧ ((k = .numeric ∨ k = .overflow) ∧ n = 5 ∨ k = .error ∧ n = 4 ∧ f.b4 = 0x00)

theorem encodedFrame_numericFrame (dig : DigTable) (v : Int) :
    EncodedFrame (numericFrame dig v).1 (numericFrame dig v).2 5 := by
  unfold numericFrame
  dsimp only
  split
  · exact ⟨rfl, .inl ⟨.inr rfl, rfl⟩⟩
  · exact ⟨rfl, .inl ⟨.inl rfl, rfl⟩⟩

theorem encodedFrame_errorFrame : EncodedFrame errorFrame .error 4 := ⟨rfl, .inr ⟨rfl, rfl, rfl⟩⟩

theorem issueWith_cases (cs : List Check) (body : List Item) (s : State) :
    (∃ e, issueWith cs body s = { s with err := e, ustep := 0, todo := [] }) ∨
      firstError cs s = none ∧ issueWith cs body s = { s.accept with todo := body } := by
  cases h : firstError cs s with
  | some e => exact .inl ⟨e, issueWith_error cs body s e h⟩
  | none => exact .inr ⟨rfl, issueWith_ok cs body s h⟩

/-- A command that is taken up was turned away by a check, or has written its frame, or has its expansion to do. -/
theorem issue_cases {i : Instr} {s t : State} (h : issue i s = .next t) :
    (∃ e, t = { s with err := e, ustep := 0, todo := [] }) ∨
    (Field.frame ∈ mayWrite i ∧ ∃ f k n, EncodedFrame f k n ∧ t = s.accept.setFrame f k n) ∨
    (Field.frame ∉ mayWrite i ∧ firstError (commandChecks i) s = none ∧
      t = { s.accept with todo := expansion s.flen.toNat i }) := by
  cases i
  case encodeNumeric v =>
    cases h
    exact .inr (.inl ⟨List.mem_singleton_self _, _, _, _, encodedFrame_numericFrame _ v, rfl⟩)
  case encodeError =>
    cases h
    exact .inr (.inl ⟨List.mem_singleton_self _, _, _, _, encodedFrame_errorFrame, rfl⟩)
  case writeFrame =>
    simp only [issue, issueWriteFrame] at h
    split at h
    · cases h
      exact .inl ⟨_, rfl⟩
    · rename_i hchecks
      split at h
      · cases h
        exact .inr (.inr ⟨by decide, hchecks, rfl⟩)
      · cases h
  all_goals
    cases h
    exact (issueWith_cases _ _ s).imp_right fun hbody => .inr ⟨by simp [mayWrite], hbody⟩

/-- A command that ends was turned away by a check, or has written its frame, or has run its expansion (R38). -/
theorem exec_cases {i : Instr} {s t : State} (h : exec i s = .next t) :
    (∃ e, t = { s with err := e, cur := none, ustep := 0, todo := [] }) ∨
    (Field.frame ∈ mayWrite i ∧ ∃ f k n, EncodedFrame f k n ∧ t = (s.accept.setFrame f k n).endCommand) ∨
    (Field.frame ∉ mayWrite i ∧ firstError (commandChecks i) s = none ∧
      t = (run (expansion s.flen.toNat i) s.accept).endCommand) := by
  rw [exec_eq_issue] at h
  cases hi : issue i s with
  | fault f => rw [hi] at h; cases h
  | refused r => rw [hi] at h; cases h
  | next u =>
    rw [hi] at h
    cases h
    obtain ⟨e, rfl⟩ | ⟨hf, f, k, n, hframe, rfl⟩ | ⟨hkeep, hchecks, rfl⟩ := issue_cases hi
    · exact .inl ⟨e, rfl⟩
    · exact .inr (.inl ⟨hf, f, k, n, hframe, rfl⟩)
    · refine .inr (.inr ⟨hkeep, hchecks, ?_⟩)
      simp only [State.complete, run_todo]
      rfl

/-- A command with an expansion that gets past its checks is INIT in UNINIT, or the block is READY (R275). -/
theorem ready_of_checks {i : Instr} {s : State} (hframe : Field.frame ∉ mayWrite i)
    (h : firstError (commandChecks i) s = none) : s.lc = .ready ∨ i = .init ∧ s.lc = .uninit := by
  have hready : ∀ cs, firstError (.ready :: cs) s = none → s.lc = .ready := by
    intro cs hcs
    by_contra hlc
    simp [firstError, Check.passes, hlc] at hcs
  cases i
  case encodeNumeric v => exact absurd (List.mem_singleton_self _) hframe
  case encodeError => exact absurd (List.mem_singleton_self _) hframe
  case init => exact .inr ⟨rfl, by simpa [commandChecks, firstError, Check.passes] using h⟩
  case shutdown => exact .inl (by simpa [commandChecks, firstError, Check.passes] using h)
  all_goals exact .inl (hready _ h)

/-! ### Induction over an expansion -/

/-- Every action of the entry, on either path, meets `q`. -/
def Item.all (q : Uop → Bool) : Item → Bool
  | .op u => q u
  | .guard _ other => other.all q
  | .backendInit other => other.all q

theorem runUops_induction {R : State → Prop} {q : Uop → Bool} (hu : ∀ u s, q u = true → R s → R (u.perform s))
    (us : List Uop) (s : State) (hq : us.all q = true) (hs : R s) : R (runUops us s) := by
  induction us generalizing s with
  | nil => exact hs
  | cons u us ih =>
    simp only [List.all_cons, Bool.and_eq_true] at hq
    exact ih _ hq.2 (hu u s hq.1 hs)

/-- What every action that may occur in it keeps, and `BINIT` keeps, an expansion keeps on every path. -/
theorem run_induction {R : State → Prop} {q : Uop → Bool} (hu : ∀ u s, q u = true → R s → R (u.perform s))
    (hb : ∀ s, R s → R s.bInit) (is : List Item) (s : State) (hq : is.all (Item.all q) = true) (hs : R s) :
    R (run is s) := by
  induction is generalizing s with
  | nil => exact hs
  | cons i is ih =>
    simp only [List.all_cons, Bool.and_eq_true] at hq
    obtain ⟨hi, his⟩ := hq
    cases i with
    | op u => exact ih _ his (hu u s hi hs)
    | guard c other =>
      rw [run]
      split
      · exact ih s his hs
      · exact runUops_induction hu other s hi hs
    | backendInit other =>
      rw [run]
      split
      · exact ih _ his (hb s hs)
      · exact runUops_induction hu other _ hi (hb s hs)

theorem all_items (q : Uop → Bool) (us : List Uop) : (items us).all (Item.all q) = us.all q := by
  simp [items, List.all_map, Function.comp_def, Item.all]

/-- The actions of WRITE_FRAME are those of its brackets, its bytes and its two endings (R230). -/
theorem all_writeFrameBody (q : Uop → Bool) (n : Nat) (hs : ∀ c, (sBody c).all q = true)
    (hk : ∀ k, (wBodyFrame k).all q = true) (hn : ∀ k, (nackPath k).all q = true) (hf : q (.setFailIdx 0) = true) :
    (writeFrameBody n).all (Item.all q) = true := by
  have hbracket := hs Config.dataCmd
  rw [sBody, List.all_append, List.all_append, Bool.and_eq_true, Bool.and_eq_true] at hbracket
  obtain ⟨⟨hstart, -⟩, hstop⟩ := hbracket
  have hburst : ∀ k, (burstByte k).all (Item.all q) = true := by
    intro k
    simp [burstByte, List.all_append, all_items, Item.all, hk, hn]
  simp only [writeFrameBody, List.all_append, all_items, List.all_flatMap, hs, hstart, hstop, hburst, hf, List.all_cons,
    List.all_nil, Bool.and_self, Bool.true_and]
  simp

/-! ### What no turn of the sequencer touches -/

/-- `OVR`, RST and the other agents' data are the same in both states. -/
def SameOutside (s t : State) : Prop :=
  t.ovr = s.ovr ∧ t.rst = s.rst ∧ t.turns = s.turns ∧ t.readLog = s.readLog

/-- The trace of `t` is that of `s` with some events after it, those events account for the change of the pins (R35),
and nothing outside the sequencer's reach has changed. -/
def Extends (s t : State) : Prop :=
  (∃ es, t.trace = s.trace ++ es ∧ t.pins = replay s.pins es) ∧ SameOutside s t

theorem Extends.of_silent {s t : State} (htrace : t.trace = s.trace) (hpins : t.pins = s.pins) (h : SameOutside s t) :
    Extends s t := ⟨⟨[], by rw [htrace, List.append_nil], hpins⟩, h⟩

theorem Extends.trans {s t u : State} (h : Extends s t) (h' : Extends t u) : Extends s u := by
  obtain ⟨⟨es, htrace, hpins⟩, ho, hr, ht, hl⟩ := h
  obtain ⟨⟨fs, htrace', hpins'⟩, ho', hr', ht', hl'⟩ := h'
  refine ⟨⟨es ++ fs, ?_, ?_⟩, ho'.trans ho, hr'.trans hr, ht'.trans ht, hl'.trans hl⟩
  · rw [htrace', htrace, List.append_assoc]
  · rw [hpins', hpins, replay_append]

theorem Extends.refl (s : State) : Extends s s := .of_silent rfl rfl ⟨rfl, rfl, rfl, rfl⟩

/-- The registers of a command that is taken up, turned away or ended are no part of the trace or the pins. -/
theorem Extends.of_bookkeeping (s : State) (c : Option Word) (n : Nat) (e : Err) (l : List Item) (f : Frame)
    (k : FrameKind) (m : BitVec 3) :
    Extends s { s with cur := c, ustep := n, err := e, todo := l, fb := f, fkind := k, flen := m } :=
  .of_silent rfl rfl ⟨rfl, rfl, rfl, rfl⟩

/-- The events an action appends (R11, R35): one for a micro-operation, none for a register write. -/
def Uop.events (s : State) : Uop → List Event
  | .rel l => [.rel l]
  | .pul l => [.pul l]
  | .dly k => [.dly k]
  | .setDio => [if s.sr.getLsbD 0 then .rel .dio else .pul .dio]
  | .smpRead l | .smpCfg l => [.smp l (s.answer 0)]
  | .smpAck => [.smp .dio (s.answer 0)]
  | .bDeinit => [.bDeinit]
  | .load _ | .loadFrame _ | .shift | .setSession _ | .setLc _ | .setFailIdx _ | .setErr _ => []

theorem Uop.perform_trace (u : Uop) (s : State) : (u.perform s).trace = s.trace ++ u.events s := by
  cases u with
  | rel l | pul l | smpCfg l => cases l <;> rfl
  | dly _ | setDio | smpRead _ | smpAck | bDeinit => rfl
  | load _ | loadFrame _ | shift | setSession _ | setLc _ | setFailIdx _ | setErr _ => exact (List.append_nil _).symm

/-- The events of an action drive the pins as the action does. -/
theorem Uop.perform_pins (u : Uop) (s : State) : (u.perform s).pins = replay s.pins (u.events s) := by
  cases u with
  | rel l | pul l | smpCfg l => cases l <;> rfl
  | setDio =>
    rw [Uop.perform, State.setDio_eq, Uop.events]
    split <;> rfl
  | dly _ | smpRead _ | smpAck | bDeinit => rfl
  | load _ | loadFrame _ | shift | setSession _ | setLc _ | setFailIdx _ | setErr _ => rfl

theorem Uop.perform_sameOutside (u : Uop) (s : State) : SameOutside s (u.perform s) := by
  cases u with
  | rel l | pul l | smpCfg l => cases l <;> exact ⟨rfl, rfl, rfl, rfl⟩
  | _ => exact ⟨rfl, rfl, rfl, rfl⟩

theorem Uop.perform_extends (u : Uop) (s : State) : Extends s (u.perform s) :=
  ⟨⟨u.events s, u.perform_trace s, u.perform_pins s⟩, u.perform_sameOutside s⟩

theorem State.bInit_extends (s : State) : Extends s s.bInit := ⟨⟨[.bInit s.initAnswer], rfl, rfl⟩, rfl, rfl, rfl, rfl⟩

theorem run_extends (is : List Item) (s : State) : Extends s (run is s) := by
  refine run_induction (q := fun _ => true) (fun u t _ h => h.trans (u.perform_extends t))
    (fun t h => h.trans t.bInit_extends) is s ?_ (.refl s)
  rw [List.all_eq_true]
  intro i _
  cases i <;> simp [Item.all]

theorem issue_extends {i : Instr} {s t : State} (h : issue i s = .next t) : Extends s t := by
  obtain ⟨e, rfl⟩ | ⟨-, f, k, n, -, rfl⟩ | ⟨-, -, rfl⟩ := issue_cases h <;> exact .of_bookkeeping s ..

theorem State.complete_extends (s : State) : Extends s s.complete :=
  (run_extends s.todo s).trans (.of_bookkeeping _ ..)

theorem exec_extends {i : Instr} {s t : State} (h : exec i s = .next t) : Extends s t := by
  obtain ⟨e, rfl⟩ | ⟨-, f, k, n, -, rfl⟩ | ⟨-, -, rfl⟩ := exec_cases h
  · exact .of_bookkeeping s ..
  · exact .of_bookkeeping s ..
  · exact (Extends.of_bookkeeping s ..).trans ((run_extends _ s.accept).trans (.of_bookkeeping _ ..))

end Sys2Proof.Machine

/-! PROOF. The turns of the agents, said once (R80): what each can do to the state, what it has no influence on, and the
one induction step by which a property of the states between commands holds in every run. -/

namespace Sys2Proof.Machine

/-! ### The sequencer -/

/-- A sequencer that is idle or held in reset does nothing. -/
theorem finishTurn_idle {s : State} (h : s.rst = true ∨ s.cur = none) : finishTurn s = .next s := by
  cases hr : s.rst with
  | true => simp [finishTurn, hr]
  | false =>
    have hcur : s.cur = none := h.resolve_left (by simp [hr])
    simp [finishTurn, hr, hcur]

/-- A latched word that decodes and has not begun is executed (R38). -/
theorem finishTurn_decoded {s : State} {w : Word} {i : Instr} (hrst : s.rst = false) (hcur : s.cur = some w)
    (htodo : s.todo = []) (hd : decode w = .ok i) : finishTurn s = exec i s := by
  simp [finishTurn, hrst, hcur, htodo, hd]

/-- A latched word that is illegal is turned away (R106). -/
theorem finishTurn_illegal {s : State} {w : Word} {e : Illegal} (hrst : s.rst = false) (hcur : s.cur = some w)
    (htodo : s.todo = []) (hd : decode w = .error e) : finishTurn s = .next s.rejectWord := by
  simp [finishTurn, hrst, hcur, htodo, hd]

/-- A command that a turn of one entry has begun is run on to its end. -/
theorem finishTurn_begun {s : State} {w : Word} (hrst : s.rst = false) (hcur : s.cur = some w) (htodo : s.todo ≠ []) :
    finishTurn s = .next s.complete := by
  obtain ⟨item, rest, hcons⟩ := List.exists_cons_of_ne_nil htodo
  simp [finishTurn, hrst, hcur, hcons]

/-- A turn to the end of the command finds the sequencer idle or held in reset, or runs, turns away or finishes the
latched command. -/
theorem finishTurn_cases {s t : State} (h : finishTurn s = .next t) :
    (t = s ∧ (s.rst = true ∨ s.cur = none)) ∨
      ∃ w, s.rst = false ∧ s.cur = some w ∧
        ((∃ i, s.todo = [] ∧ decode w = .ok i ∧ exec i s = .next t) ∨
          (∃ e, s.todo = [] ∧ decode w = .error e ∧ t = s.rejectWord) ∨ s.todo ≠ [] ∧ t = s.complete) := by
  by_cases hidle : s.rst = true ∨ s.cur = none
  · rw [finishTurn_idle hidle] at h
    cases h
    exact .inl ⟨rfl, hidle⟩
  · rw [not_or, Bool.not_eq_true] at hidle
    obtain ⟨hrst, hcur⟩ := hidle
    obtain ⟨w, hw⟩ := Option.ne_none_iff_exists'.mp hcur
    refine .inr ⟨w, hrst, hw, ?_⟩
    by_cases htodo : s.todo = []
    · cases hd : decode w with
      | ok i => exact .inl ⟨i, htodo, rfl, by rw [← h, finishTurn_decoded hrst hw htodo hd]⟩
      | error e =>
        rw [finishTurn_illegal hrst hw htodo hd] at h
        cases h
        exact .inr (.inl ⟨e, htodo, rfl, rfl⟩)
    · rw [finishTurn_begun hrst hw htodo] at h
      cases h
      exact .inr (.inr ⟨htodo, rfl⟩)

/-- A turn of one entry finds the sequencer idle or held in reset, or takes up or turns away the command, or performs
the next entry. -/
theorem microTurn_cases {s t : State} (h : microTurn s = .next t) :
    t = s ∨ (∃ i u, issue i s = .next u ∧ t = u.endIfDone) ∨ t = s.rejectWord ∨
      ∃ (item : Item) (rest : List Item), t = (item.perform rest s).endIfDone := by
  unfold microTurn at h
  split at h
  · cases h
    exact .inl rfl
  · split at h
    · cases h
      exact .inl rfl
    · split at h
      · split at h
        · split at h
          · rename_i hu
            cases h
            exact .inr (.inl ⟨_, _, hu, rfl⟩)
          · cases h
          · cases h
        · cases h
          exact .inr (.inr (.inl rfl))
      · cases h
        exact .inr (.inr (.inr ⟨_, _, rfl⟩))

theorem exec_ends {i : Instr} {s t : State} (h : exec i s = .next t) :
    t.cur = none ∧ t.ustep = 0 ∧ t.todo = [] := by
  obtain ⟨e, rfl⟩ | ⟨-, f, k, n, -, rfl⟩ | ⟨-, -, rfl⟩ := exec_cases h <;> exact ⟨rfl, rfl, rfl⟩

/-- After a turn to the end of the command there is nothing more to do (R82). -/
theorem finishTurn_finishTurn {s t : State} (h : finishTurn s = .next t) : finishTurn t = .next t := by
  obtain ⟨rfl, hidle⟩ | ⟨w, -, -, ⟨i, -, -, hi⟩ | ⟨e, -, -, rfl⟩ | ⟨-, rfl⟩⟩ := finishTurn_cases h
  · exact finishTurn_idle hidle
  · exact finishTurn_idle (.inr (exec_ends hi).1)
  · exact finishTurn_idle (.inr rfl)
  · exact finishTurn_idle (.inr rfl)

theorem State.endIfDone_extends (s : State) : Extends s s.endIfDone := by
  unfold State.endIfDone
  split
  · exact .of_bookkeeping s ..
  · exact .refl s

theorem Item.perform_extends (i : Item) (rest : List Item) (s : State) : Extends s (i.perform rest s) := by
  cases i with
  | op u => exact (u.perform_extends s).trans (.of_bookkeeping _ ..)
  | guard c other => exact .of_bookkeeping s ..
  | backendInit other => exact s.bInit_extends.trans (.of_bookkeeping _ ..)

theorem finishTurn_extends {s t : State} (h : finishTurn s = .next t) : Extends s t := by
  obtain ⟨rfl, -⟩ | ⟨w, -, -, ⟨i, -, -, hi⟩ | ⟨e, -, -, rfl⟩ | ⟨-, rfl⟩⟩ := finishTurn_cases h
  · exact .refl t
  · exact exec_extends hi
  · exact .of_bookkeeping s ..
  · exact s.complete_extends

theorem microTurn_extends {s t : State} (h : microTurn s = .next t) : Extends s t := by
  obtain rfl | ⟨i, u, hu, rfl⟩ | rfl | ⟨item, rest, rfl⟩ := microTurn_cases h
  · exact .refl t
  · exact (issue_extends hu).trans u.endIfDone_extends
  · exact .of_bookkeeping s ..
  · exact (item.perform_extends rest s).trans (State.endIfDone_extends _)

/-! ### The host's data has no influence on a command -/

/-- The state with other turns to come, another record of reads and another `OVR`. -/
def State.withHost (s : State) (ts : List Turn) (log : List (BitVec 2 × Word)) (o : Bool) : State :=
  { s with turns := ts, readLog := log, ovr := o }

section WithHost

variable (ts : List Turn) (log : List (BitVec 2 × Word)) (o : Bool)

theorem Uop.perform_withHost (u : Uop) (s : State) :
    u.perform (s.withHost ts log o) = (u.perform s).withHost ts log o := by
  cases u with
  | rel x => cases x <;> rfl
  | pul x => cases x <;> rfl
  | smpCfg x => cases x <;> rfl
  | dly _ | setDio | smpRead _ | smpAck | bDeinit | load _ | loadFrame _ | shift => rfl
  | setSession _ | setLc _ | setFailIdx _ | setErr _ => rfl

theorem runUops_withHost (us : List Uop) (s : State) :
    runUops us (s.withHost ts log o) = (runUops us s).withHost ts log o := by
  induction us generalizing s with
  | nil => rfl
  | cons u us ih => rw [runUops_cons, runUops_cons, Uop.perform_withHost, ih]

theorem Cond.holds_withHost (c : Cond) (s : State) : c.holds (s.withHost ts log o) = c.holds s := by
  cases c <;> rfl

theorem run_withHost (is : List Item) (s : State) : run is (s.withHost ts log o) = (run is s).withHost ts log o := by
  induction is generalizing s with
  | nil => rfl
  | cons i is ih =>
    cases i with
    | op u => rw [run, run, Uop.perform_withHost, ih]
    | guard c other =>
      rw [run, run, Cond.holds_withHost]
      split
      · exact ih s
      · exact runUops_withHost ts log o other s
    | backendInit other =>
      have hanswer : (s.withHost ts log o).initAnswer = s.initAnswer := rfl
      rw [run, run, hanswer]
      split
      · exact ih s.bInit
      · exact runUops_withHost ts log o other s.bInit

theorem firstError_withHost (cs : List Check) (s : State) : firstError cs (s.withHost ts log o) = firstError cs s := by
  induction cs with
  | nil => rfl
  | cons c cs ih =>
    have hpasses : c.passes (s.withHost ts log o) = c.passes s := by
      cases c with
      | released l => cases l <;> rfl
      | ready | lifecycle _ | session _ | framePresent => rfl
    rw [firstError, firstError, hpasses, ih]

theorem issueWith_withHost (cs : List Check) (body : List Item) (s : State) :
    issueWith cs body (s.withHost ts log o) = (issueWith cs body s).withHost ts log o := by
  unfold issueWith
  rw [firstError_withHost]
  cases firstError cs s <;> rfl

theorem issue_withHost {i : Instr} {s t : State} (h : issue i s = .next t) :
    issue i (s.withHost ts log o) = .next (t.withHost ts log o) := by
  cases i
  case writeFrame =>
    have hlen : (s.withHost ts log o).flen = s.flen := rfl
    simp only [issue, issueWriteFrame, firstError_withHost, hlen] at h ⊢
    split at h
    · cases h
      rfl
    · split at h
      · cases h
        rename_i hle
        rw [if_pos hle]
        rfl
      · cases h
  case encodeNumeric v => cases h; rfl
  case encodeError => cases h; rfl
  all_goals
    cases h
    exact congrArg Host.Outcome.next (issueWith_withHost ts log o _ _ s)

theorem State.complete_withHost (s : State) : (s.withHost ts log o).complete = s.complete.withHost ts log o :=
  congrArg State.endCommand (run_withHost ts log o s.todo s)

theorem exec_withHost {i : Instr} {s t : State} (h : exec i s = .next t) :
    exec i (s.withHost ts log o) = .next (t.withHost ts log o) := by
  rw [exec_eq_issue] at h ⊢
  cases hi : issue i s with
  | fault f => rw [hi] at h; cases h
  | refused r => rw [hi] at h; cases h
  | next u =>
    rw [hi] at h
    cases h
    rw [issue_withHost ts log o hi]
    exact congrArg Host.Outcome.next (u.complete_withHost ts log o)

/-- What the host has scheduled, has read, or has written too early changes nothing in how the command ends (R82). -/
theorem finishTurn_withHost {s t : State} (h : finishTurn s = .next t) :
    finishTurn (s.withHost ts log o) = .next (t.withHost ts log o) := by
  obtain ⟨rfl, hidle⟩ | ⟨w, hrst, hcur, ⟨i, htodo, hd, hi⟩ | ⟨e, htodo, hd, rfl⟩ | ⟨htodo, rfl⟩⟩ := finishTurn_cases h
  · exact finishTurn_idle hidle
  · exact (finishTurn_decoded (s := s.withHost ts log o) hrst hcur htodo hd).trans (exec_withHost ts log o hi)
  · exact finishTurn_illegal hrst hcur htodo hd
  · exact (finishTurn_begun (s := s.withHost ts log o) hrst hcur htodo).trans
      (congrArg Host.Outcome.next (s.complete_withHost ts log o))

end WithHost

/-! ### The host and the platform -/

/-- The word latched in `CUR`, as a CMD write to the idle block leaves it (R82). -/
def State.latch (s : State) (w : Word) : State := { s with cur := some w, ustep := 0, todo := [] }

/-- An access of the host touches its record and `OVR`, which it never clears, or starts a command (R73, R82). -/
theorem accessTurn_cases {a : Access} {s t : State} (h : accessTurn a s = .next t) :
    (∃ log o, (s.ovr = true → o = true) ∧ t = s.withHost s.turns log o) ∨
      s.rst = false ∧ s.cur = none ∧ ∃ w, t = s.latch w := by
  have hsame : ∃ log o, (s.ovr = true → o = true) ∧ s = s.withHost s.turns log o := ⟨s.readLog, s.ovr, id, rfl⟩
  cases a with
  | read offset width =>
    rw [accessTurn] at h
    split at h
    · cases h
      exact .inl ⟨_, s.ovr, id, rfl⟩
    · cases h
  | write offset width data =>
    rw [accessTurn] at h
    split at h
    · cases h
      unfold writeReg
      split
      · unfold writeCmd
        split
        · exact .inl hsame
        · rename_i hrst
          split
          · exact .inl ⟨s.readLog, true, fun _ => rfl, rfl⟩
          · rename_i hbusy
            exact .inr ⟨by simpa using hrst, by simpa [State.busy] using hbusy, data, rfl⟩
      all_goals exact .inl hsame
    · cases h

theorem rstTurn_cases (b : Bool) (s : State) : (∃ level, rstTurn b s = s.resetBlock level) ∨ rstTurn b s = s := by
  unfold rstTurn
  split
  · exact .inl ⟨true, rfl⟩
  · split
    · exact .inl ⟨false, rfl⟩
    · exact .inr rfl

end Sys2Proof.Machine

/-! PROOF. Frames and results of the commands (R43, R51, R53): which fields an action writes, which a command leaves
alone, what becomes of `LC`, `SESSION` and `BC`, and from these that every command keeps the invariants of R53. -/

namespace Sys2Proof.Machine

/-! ### Fields an action writes -/

/-- The columns of R51's table that an action may change. -/
def Uop.writes : Uop → List Field
  | .rel _ | .pul _ | .setDio => [.dir]
  | .smpRead _ => [.rdata]
  | .smpCfg _ => [.cfg]
  | .smpAck => [.ack]
  | .setSession _ => [.session]
  | .setLc _ => [.lc]
  | .setFailIdx _ => [.failIdx]
  | .dly _ | .bDeinit | .load _ | .loadFrame _ | .shift | .setErr _ => []

/-- The action writes only the fields listed. -/
def Uop.writesOnly (fs : List Field) (u : Uop) : Bool := u.writes.all fun f => decide (f ∈ fs)

theorem Field.same_refl (f : Field) (s : State) : f.same s s := by
  cases f <;> simp [Field.same]

theorem Field.same_trans {f : Field} {s t u : State} (h : f.same s t) (h' : f.same t u) : f.same s u := by
  cases f <;> simp_all [Field.same]

theorem State.emit_same (s : State) (e : Event) (f : Field) : f.same s (s.emit e) := by
  cases f <;> simp [Field.same]

theorem State.smp_same (s : State) (l : Line) (f : Field) : f.same s (s.smp l) := by
  cases f <;> simp [Field.same, State.smp]

theorem State.setDir_same (s : State) (l : Line) (d : Dir) {f : Field} (hf : f ≠ .dir) : f.same s (s.setDir l d) := by
  cases l <;> cases f <;> simp_all [Field.same]

theorem State.setCfgLow_same (s : State) (l : Line) (b : Bool) {f : Field} (hf : f ≠ .cfg) :
    f.same s (s.setCfgLow l b) := by
  cases l <;> cases f <;> simp_all [Field.same]

theorem Uop.perform_same (u : Uop) (s : State) (f : Field) (h : f ∉ u.writes) : f.same s (u.perform s) := by
  have hother : ∀ g, u.writes = [g] → f ≠ g := fun g hg hfg => h (by simp [hg, hfg])
  cases u with
  | rel l | pul l | setDio => exact Field.same_trans (s.setDir_same _ _ (hother .dir rfl)) (State.emit_same _ _ f)
  | smpCfg l => exact Field.same_trans (s.smp_same l f) (State.setCfgLow_same _ l _ (hother .cfg rfl))
  | smpRead l | smpAck =>
    have hf := hother _ rfl
    cases f <;> simp_all [Field.same, Uop.perform, State.smp]
  | setSession _ | setLc _ | setFailIdx _ =>
    have hf := hother _ rfl
    cases f <;> simp_all [Field.same, Uop.perform]
  | dly _ | bDeinit => exact s.emit_same _ f
  | load _ | loadFrame _ | shift | setErr _ => cases f <;> simp [Field.same, Uop.perform]

/-- An expansion leaves alone every field outside the list its actions keep to. -/
theorem run_same {fs : List Field} {f : Field} (hf : f ∉ fs) (is : List Item)
    (his : is.all (Item.all (Uop.writesOnly fs)) = true) (s : State) : f.same s (run is s) := by
  refine run_induction (fun u t hu h => ?_) (fun t h => ?_) is s his (f.same_refl s)
  · refine Field.same_trans h (u.perform_same t f fun hmem => hf ?_)
    exact of_decide_eq_true (List.all_eq_true.mp hu f hmem)
  · exact Field.same_trans h (by cases f <;> simp [Field.same, State.bInit])

/-- R51: the actions of a command write only the fields its row marks. -/
theorem expansion_writesOnly (n : Nat) (i : Instr) :
    (expansion n i).all (Item.all (Uop.writesOnly (mayWrite i))) = true := by
  cases i
  case writeFrame => exact all_writeFrameBody _ n (fun _ => rfl) (fun _ => rfl) (fun _ => rfl) rfl
  all_goals rfl

/-- Settles O52: a command turned away writes `ERR`, an encode command its frame, and an expansion what its actions
write. -/
theorem commandsKeepUnmarkedFields : Obligations.CommandsKeepUnmarkedFields := by
  intro i s t f h hf
  obtain ⟨e, rfl⟩ | ⟨hframe, fr, k, n, -, rfl⟩ | ⟨-, -, rfl⟩ := exec_cases h
  · exact f.same_refl s
  · cases f with
    | frame => exact absurd hframe hf
    | dir | cfg => exact ⟨rfl, rfl⟩
    | ack | rdata | session | lc | failIdx => rfl
  · exact run_same hf _ (expansion_writesOnly _ i) s.accept

end Sys2Proof.Machine

/-! PROOF. `LC`, the shift register and INIT (R39, R43, R160, R250): what the commands do to them. -/

namespace Sys2Proof.Machine

/-! ### INIT -/

/-- INIT with a backend that comes up ends in READY if both samples read HIGH, else in FAILED (R250). -/
theorem run_initBody_up_lc (s : State) (h : s.initAnswer = true) :
    (run initBody s).lc = if s.bInit.answer 0 && s.bInit.answer 1 then .ready else .failed := by
  rw [initBody, List.append_assoc, List.singleton_append, run_backendInit_up _ _ _ h, run_items_append, runUops_vBody]
  cases hlevels : s.bInit.answer 0 && s.bInit.answer 1 with
  | true =>
    rw [run_guard_pass _ _ _ _ (by simpa [Cond.holds] using hlevels)]
    rfl
  | false =>
    rw [run_guard_fail _ _ _ _ (by simpa [Cond.holds] using hlevels)]
    rfl

theorem run_initBody_lc (s : State) : (run initBody s).lc = .ready ∨ (run initBody s).lc = .failed := by
  cases h : s.initAnswer with
  | false =>
    rw [initBody, List.append_assoc, List.singleton_append, run_backendInit_down _ _ _ h]
    exact .inr rfl
  | true =>
    rw [run_initBody_up_lc s h]
    split
    · exact .inl rfl
    · exact .inr rfl

/-- INIT in UNINIT runs its expansion (R250). -/
theorem exec_init_of_uninit (s : State) (h : s.lc = .uninit) :
    exec .init s = .next (run initBody { s.accept with todo := initBody }).endCommand := by
  have hchecks : firstError [.lifecycle .uninit] s = none := by simp [firstError, Check.passes, h]
  exact congrArg Host.Outcome.next (congrArg State.complete (issueWith_ok _ initBody s hchecks))

/-- R34: a released line is HIGH exactly if its pull-up is fitted and its peer leaves it. -/
theorem busLevel_released (fitted peer : Bool) :
    busLevel fitted peer .released = true ↔ fitted = true ∧ peer = false := by
  cases fitted <;> cases peer <;> decide

/-- Settles O47: with a backend that comes up, INIT ends in READY if both samples read HIGH, and a released line is HIGH
exactly with its pull-up fitted and no peer pulling it. -/
theorem initChecksThePullUps : Obligations.InitChecksThePullUps := by
  intro s fitDio fitClk peerDio peerClk rest hlc hinit hsamples
  set u : State := { s.accept with todo := initBody }
  have hup : u.initAnswer = true := by simp [State.initAnswer, u, hinit]
  have hdio : u.bInit.answer 0 = busLevel fitDio peerDio .released := by
    simp [State.answer, State.bInit, u, hsamples]
  have hclk : u.bInit.answer 1 = busLevel fitClk peerClk .released := by
    simp [State.answer, State.bInit, u, hsamples]
  refine ⟨_, exec_init_of_uninit s hlc, ?_, run_initBody_lc u⟩
  show (run initBody u).lc = .ready ↔ _
  have hready : ∀ b : Bool, (if b then Lifecycle.ready else .failed) = .ready ↔ b = true := by decide
  rw [run_initBody_up_lc u hup, hdio, hclk, hready, Bool.and_eq_true, busLevel_released, busLevel_released]
  tauto

/-! ### `LC` -/

theorem init_or_shutdown_of_lc {i : Instr} (h : Field.lc ∈ mayWrite i) : i = .init ∨ i = .shutdown := by
  cases i <;> simp_all [mayWrite]

/-- Settles O49: only the expansions of INIT and SHUTDOWN write `LC`, each past its check. -/
theorem lifecycleTransitions : Obligations.LifecycleTransitions := by
  intro i s t h
  by_cases hlc : Field.lc ∈ mayWrite i
  · obtain ⟨e, rfl⟩ | ⟨-, f, k, n, -, rfl⟩ | ⟨-, hchecks, rfl⟩ := exec_cases h
    · exact .inl rfl
    · exact .inl rfl
    · obtain rfl | rfl := init_or_shutdown_of_lc hlc
      · refine .inr (.inl ⟨rfl, ?_, run_initBody_lc s.accept⟩)
        simpa [commandChecks, firstError, Check.passes] using hchecks
      · refine .inr (.inr ⟨rfl, ?_, rfl⟩)
        simpa [commandChecks, firstError, Check.passes] using hchecks
  · exact .inl (commandsKeepUnmarkedFields i s t .lc h hlc)

/-! ### `SR` and `BC` -/

/-- The action leaves `SR` and `BC` alone. -/
def Uop.keepsShifter : Uop → Bool
  | .load _ | .loadFrame _ | .shift => false
  | .rel _ | .pul _ | .dly _ | .setDio | .smpRead _ | .smpCfg _ | .smpAck | .bDeinit => true
  | .setSession _ | .setLc _ | .setFailIdx _ | .setErr _ => true

theorem run_shifter (is : List Item) (s : State) (h : is.all (Item.all Uop.keepsShifter) = true) :
    (run is s).sr = s.sr ∧ (run is s).bc = s.bc := by
  refine run_induction (R := fun t => t.sr = s.sr ∧ t.bc = s.bc) (fun u t hu ht => ?_) (fun t ht => ht) is s h
    ⟨rfl, rfl⟩
  cases u with
  | load _ | loadFrame _ | shift => cases hu
  | rel l | pul l | smpCfg l => cases l <;> exact ht
  | _ => exact ht

theorem expansion_keepsShifter (n : Nat) {i : Instr} (hbyte : ∀ b, i ≠ .writeByte b)
    (hcommand : ∀ b, i ≠ .sendCommand b)
    (hframe : i ≠ .writeFrame) : (expansion n i).all (Item.all Uop.keepsShifter) = true := by
  cases i
  case writeByte b => exact absurd rfl (hbyte b)
  case sendCommand b => exact absurd rfl (hcommand b)
  case writeFrame => exact absurd rfl hframe
  all_goals rfl

/-- Settles O53: every action only appends to the trace and reaches nothing outside, and only the bytes' actions
shift. -/
theorem commandsKeepTheRest : Obligations.CommandsKeepTheRest := by
  intro i s t h
  obtain ⟨⟨es, htrace, -⟩, hovr, hrst, hturns, hlog⟩ := exec_extends h
  refine ⟨hovr, hrst, hturns, hlog, ⟨es, htrace⟩, fun hbyte hcommand hframe => ?_⟩
  obtain ⟨e, rfl⟩ | ⟨-, f, k, n, -, rfl⟩ | ⟨-, -, rfl⟩ := exec_cases h
  · exact ⟨rfl, rfl⟩
  · exact ⟨rfl, rfl⟩
  · exact run_shifter _ s.accept (expansion_keepsShifter _ hbyte hcommand hframe)

/-- Whatever comes after a data burst, `BC` is 8 at the end if it leaves it so: a NACK ends with `BC` at 8 as well. -/
theorem run_burst_bc (ks : List (Fin 5)) (rest : List Item) (hrest : ∀ s, (run rest s).bc = 8) (s : State) :
    (run (ks.flatMap burstByte ++ rest) s).bc = 8 := by
  induction ks generalizing s with
  | nil => exact hrest s
  | cons k ks ih =>
    rw [List.flatMap_cons, List.append_assoc]
    cases h : s.answer 0 with
    | true => rw [run_burst_nacked k _ s h]
    | false =>
      have hacked := run_burst_acked [k] (ks.flatMap burstByte ++ rest) s (by simp [h])
      rw [List.flatMap_singleton] at hacked
      rw [hacked, ih]

theorem run_writeFrameBody_bc (n : Nat) (s : State) : (run (writeFrameBody n) s).bc = 8 := by
  rw [writeFrameBody, List.append_assoc, run_items_append]
  refine run_burst_bc _ _ (fun t => ?_) _
  rw [run_items, runUops_append, runUops_append, runUops_sBody]
  rfl

/-- Every command leaves `BC` as it was or at 8 (R39). -/
theorem exec_bc {i : Instr} {s t : State} (h : exec i s = .next t) : t.bc = s.bc ∨ t.bc = 8 := by
  obtain ⟨e, rfl⟩ | ⟨-, f, k, n, -, rfl⟩ | ⟨-, -, rfl⟩ := exec_cases h
  · exact .inl rfl
  · exact .inl rfl
  · cases i
    case writeByte b => exact .inr (by rw [expansion, run_items, runUops_wBody]; rfl)
    case sendCommand b => exact .inr (by rw [expansion, run_items, runUops_sBody]; rfl)
    case writeFrame => exact .inr (run_writeFrameBody_bc _ _)
    all_goals exact .inl (run_shifter _ s.accept rfl).2

end Sys2Proof.Machine

/-! PROOF. The invariants between commands (R53, R36, R163): every command keeps them, and so, by one induction step for
all agents, does every step. -/

namespace Sys2Proof.Machine

/-! ### Between commands (R53) -/

/-- A length no run reaches is the only thing that stops a command (R44, R70). -/
theorem exec_completes (i : Instr) (s : State) (h : s.flen.toNat ≤ 5) : ∃ t, exec i s = .next t := by
  cases i
  case writeFrame =>
    rw [exec, execWriteFrame, issueWriteFrame]
    cases firstError [.ready, .session false, .framePresent] s with
    | some e => exact ⟨_, rfl⟩
    | none => simp [h]
  all_goals exact ⟨_, rfl⟩

/-- R53: the length of a frame is 0, 4 or 5. -/
theorem Quiet.flen_le {s : State} (h : Quiet s) : s.flen.toNat ≤ 5 := by
  obtain ⟨-, hnone, hfive, hfour, -⟩ := h
  cases hk : s.fkind with
  | none => simp [hnone.mp hk]
  | numeric => simp [hfive (.inl hk)]
  | overflow => simp [hfive (.inr hk)]
  | error => simp [(hfour hk).1]

/-- An encode command leaves a frame of one of the kinds, and nothing else of R53 changes. -/
theorem quiet_of_encodedFrame {s : State} (h : Quiet s) {f : Frame} {k : FrameKind} {n : BitVec 3}
    (hf : EncodedFrame f k n) : Quiet (s.accept.setFrame f k n).endCommand := by
  obtain ⟨hses, -, -, -, -, hout, hbc, -⟩ := h
  obtain ⟨haddr, ⟨rfl | rfl, rfl⟩ | ⟨rfl, rfl, hb4⟩⟩ := hf
  · exact ⟨hses, by simp, fun _ => rfl, by simp, fun _ => haddr, hout, hbc, rfl⟩
  · exact ⟨hses, by simp, fun _ => rfl, by simp, fun _ => haddr, hout, hbc, rfl⟩
  · exact ⟨hses, by simp, by simp, fun _ => ⟨rfl, hb4⟩, fun _ => haddr, hout, hbc, rfl⟩

/-- Without a new frame, R53 is about `SESSION`, `BC` and `USTEP`. -/
theorem quiet_of_same_frame {s t : State} (h : Quiet s) (hframe : Field.frame.same s t)
    (hses : t.lc ≠ .ready → t.session = false) (hbc : t.bc = s.bc ∨ t.bc = 8) (hustep : t.ustep = 0) : Quiet t := by
  obtain ⟨-, hnone, hfive, hfour, haddr, hout, hbc', -⟩ := h
  obtain ⟨hfb, hkind, hlen⟩ := hframe
  rw [← hkind, ← hlen] at hnone
  rw [← hkind, ← hlen] at hfive
  rw [← hkind, ← hlen, ← hfb] at hfour
  rw [← hkind, ← hfb] at haddr
  refine ⟨hses, hnone, hfive, hfour, haddr, fun l => rfl, ?_, hustep⟩
  obtain hsame | height := hbc
  · rwa [hsame]
  · exact .inr height

/-- A command that runs its expansion ends READY, or closes the session, or found none open (R42, R53). -/
theorem exec_session {i : Instr} {s t : State} (hs : s.lc ≠ .ready → s.session = false) (h : exec i s = .next t) :
    t.lc ≠ .ready → t.session = false := by
  by_cases hready : s.lc = .ready
  · obtain hsame | ⟨-, huninit, -⟩ | ⟨rfl, -, hoff⟩ := lifecycleTransitions i s t h
    · exact fun hlc => absurd (hsame.trans hready) hlc
    · exact absurd (hready.symm.trans huninit) (by decide)
    · obtain ⟨e, rfl⟩ | ⟨hframe, -⟩ | ⟨-, -, rfl⟩ := exec_cases h
      · exact absurd (hready.symm.trans hoff) (by decide)
      · exact absurd hframe (by decide)
      · exact fun _ => rfl
  · obtain ⟨e, rfl⟩ | ⟨-, f, k, n, -, rfl⟩ | ⟨hkeep, hchecks, -⟩ := exec_cases h
    · exact hs
    · exact hs
    · obtain hlc | ⟨rfl, -⟩ := ready_of_checks hkeep hchecks
      · exact absurd hlc hready
      · have hsame : t.session = s.session := commandsKeepUnmarkedFields .init s t .session h (by decide)
        exact fun _ => hsame.trans (hs hready)

theorem quiet_exec {i : Instr} {s t : State} (hq : Quiet s) (h : exec i s = .next t) : Quiet t := by
  have hses := exec_session hq.1 h
  have hbc := exec_bc h
  obtain ⟨-, hustep, -⟩ := exec_ends h
  by_cases hframe : Field.frame ∈ mayWrite i
  · obtain ⟨e, rfl⟩ | ⟨-, f, k, n, hf, rfl⟩ | ⟨hkeep, -⟩ := exec_cases h
    · exact quiet_of_same_frame hq ⟨rfl, rfl, rfl⟩ hses hbc hustep
    · exact quiet_of_encodedFrame hq hf
    · exact absurd hframe hkeep
  · exact quiet_of_same_frame hq (commandsKeepUnmarkedFields i s t .frame h hframe) hses hbc hustep

/-- Settles O56: a frame of the buffer's size never stops WRITE_FRAME, and nothing else stops at all. -/
theorem quietCommandsComplete : Obligations.QuietCommandsComplete := by
  intro i s hq
  obtain ⟨t, ht⟩ := exec_completes i s hq.flen_le
  exact ⟨t, ht, quiet_exec hq ht⟩

/-! ### From commands to steps -/

theorem settles_iff {P : State → Prop} {s : State} : Settles P s ↔ ∃ t, finishTurn s = .next t ∧ P t := by
  unfold Settles
  cases finishTurn s <;> simp

/-- What has to be shown of a property for every step to keep it between commands. -/
structure BetweenCommands (P : State → Prop) : Prop where
  host : ∀ s ts log o, P s → P (State.withHost s ts log o)
  reset : ∀ s level, P (State.resetBlock s level)
  command : ∀ (s : State) c e, P s → P { s with cur := c, ustep := 0, todo := [], err := e }
  exec : ∀ i s t, Quiet s → P s → Machine.exec i s = .next t → P t

/-- Once the command has run to its end, there is no more for a turn to the end to do. -/
theorem settles_finishTurn {P : State → Prop} {s t : State} (h : Settles P s) (hstep : finishTurn s = .next t) :
    Settles P t := by
  obtain ⟨u, hu, hPu⟩ := settles_iff.mp h
  rw [hstep] at hu
  cases hu
  exact settles_iff.mpr ⟨t, finishTurn_finishTurn hstep, hPu⟩

theorem quiet_resetBlock (s : State) (level : Bool) : Quiet (s.resetBlock level) :=
  ⟨fun _ => rfl, by simp [State.reset], by simp [State.reset], by simp [State.reset], by simp [State.reset],
    fun _ => rfl, .inl rfl, rfl⟩

theorem betweenCommands_quiet : BetweenCommands Quiet where
  host _ _ _ _ h := h
  reset := quiet_resetBlock
  command s c e h := by
    obtain ⟨hses, hnone, hfive, hfour, haddr, hout, hbc, -⟩ := h
    exact ⟨hses, hnone, hfive, hfour, haddr, hout, hbc, rfl⟩
  exec _ _ _ _ h := quiet_exec h

section Steps

variable {P : State → Prop} (hP : BetweenCommands P) {s t : State}
include hP

theorem BetweenCommands.settles_withHost (ts : List Turn) (log : List (BitVec 2 × Word)) (o : Bool)
    (h : Settles P s) : Settles P (s.withHost ts log o) := by
  obtain ⟨u, hu, hPu⟩ := settles_iff.mp h
  exact settles_iff.mpr ⟨_, finishTurn_withHost ts log o hu, hP.host u ts log o hPu⟩

/-- A word latched while the block is idle runs to an end with the property (R82). -/
theorem BetweenCommands.settles_latch (hq : Settles Quiet s) (h : Settles P s) (hrst : s.rst = false)
    (hcur : s.cur = none) (w : Word) : Settles P (s.latch w) := by
  rw [Settles, finishTurn_idle (.inr hcur)] at hq h
  have hq' : Quiet (s.latch w) := betweenCommands_quiet.command s (some w) s.err hq
  cases hd : decode w with
  | ok i =>
    obtain ⟨t, ht⟩ := exec_completes i (s.latch w) hq.flen_le
    exact settles_iff.mpr ⟨t, (finishTurn_decoded (s := s.latch w) hrst rfl rfl hd).trans ht,
      hP.exec i (s.latch w) t hq' (hP.command s (some w) s.err h) ht⟩
  | error e =>
    exact settles_iff.mpr ⟨_, finishTurn_illegal (s := s.latch w) hrst rfl rfl hd, hP.command s none .illegal h⟩

theorem BetweenCommands.settles_resetBlock (level : Bool) : Settles P (s.resetBlock level) :=
  settles_iff.mpr ⟨_, finishTurn_idle (.inr rfl), hP.reset s level⟩

/-- Every step of every agent keeps the property between commands (R80). -/
theorem BetweenCommands.settles_step (hq : Settles Quiet s) (h : Settles P s) (hstep : step s = .next t) :
    Settles P t := by
  have hq' := fun ts => betweenCommands_quiet.settles_withHost ts s.readLog s.ovr hq
  have h' := fun ts => hP.settles_withHost ts s.readLog s.ovr h
  obtain ⟨-, he⟩ | ⟨ts, a, -, he⟩ | ⟨ts, b, -, he⟩ | ⟨ts, -, he⟩ | ⟨ts, -, he⟩ := step_cases s <;> rw [he] at hstep
  · exact settles_finishTurn h hstep
  · obtain ⟨log, o, -, rfl⟩ | ⟨hrst, hcur, w, rfl⟩ := accessTurn_cases hstep
    · exact hP.settles_withHost ts log o (h' ts)
    · exact hP.settles_latch (hq' ts) (h' ts) hrst hcur w
  · cases hstep
    obtain ⟨level, hreset⟩ | hsame := rstTurn_cases b { s with turns := ts }
    · rw [hreset]
      exact hP.settles_resetBlock level
    · rw [hsame]
      exact h' ts
  · rw [Settles, finishTurn_of_microTurn _ _ hstep]
    exact h' ts
  · exact settles_finishTurn (h' ts) hstep

end Steps

/-- Settles O55: the invariants of R53 are kept by the commands, and the other agents have no part in them. -/
theorem stepKeepsQuiet : Obligations.StepKeepsQuiet :=
  fun _ _ hq hstep => betweenCommands_quiet.settles_step hq hq hstep

end Sys2Proof.Machine

/-! PROOF. The trace and the pins (R35, R36, R163): every step extends the trace by events that account for the pins; no
line is sampled while it is Pulled; nothing is pulled before a successful INIT. -/

namespace Sys2Proof.Machine

/-! ### The trace grows and tells the pins -/

/-- The trace of `t` is that of `s` with some events after it, those events account for the change of the pins, and a
set `OVR` is still set. -/
def Continues (s t : State) : Prop :=
  (∃ es, t.trace = s.trace ++ es ∧ t.pins = replay s.pins es) ∧ (s.ovr = true → t.ovr = true)

theorem Extends.continues {s t : State} (h : Extends s t) : Continues s t := ⟨h.1, fun hovr => h.2.1.trans hovr⟩

theorem accessTurn_continues {a : Access} {s t : State} (h : accessTurn a s = .next t) : Continues s t := by
  obtain ⟨log, o, hovr, rfl⟩ | ⟨-, -, w, rfl⟩ := accessTurn_cases h
  · exact ⟨⟨[], (List.append_nil _).symm, rfl⟩, hovr⟩
  · exact (Extends.of_bookkeeping s ..).continues

/-- Every step continues the trace, but for an edge of RST, which resets the block (R35, R300). -/
theorem step_continues {s t : State} (h : step s = .next t) :
    Continues s t ∨ (∃ u level, t = State.resetBlock u level) ∧ ∃ b ts, s.turns = .rst b :: ts := by
  obtain ⟨-, he⟩ | ⟨ts, a, -, he⟩ | ⟨ts, b, hturns, he⟩ | ⟨ts, -, he⟩ | ⟨ts, -, he⟩ := step_cases s <;> rw [he] at h
  · exact .inl (finishTurn_extends h).continues
  · have hcontinues : Continues { s with turns := ts } t := accessTurn_continues h
    exact .inl hcontinues
  · cases h
    obtain ⟨level, hreset⟩ | hsame := rstTurn_cases b { s with turns := ts }
    · exact .inr ⟨⟨_, level, hreset⟩, b, ts, hturns⟩
    · rw [hsame]
      exact .inl (Extends.refl s).continues
  · have hcontinues : Continues { s with turns := ts } t := (microTurn_extends h).continues
    exact .inl hcontinues
  · have hcontinues : Continues { s with turns := ts } t := (finishTurn_extends h).continues
    exact .inl hcontinues

/-- Settles O57: the events a step appends drive the pins as the step does, and a reset empties the trace and idles both
lines. -/
theorem stepKeepsTraceTellingThePins : Obligations.StepKeepsTraceTellingThePins := by
  intro s t htells h
  obtain ⟨⟨es, htrace, hpins⟩, -⟩ | ⟨⟨u, level, rfl⟩, -⟩ := step_continues h
  · rw [htrace, replay_append, htells, hpins]
  · rfl

/-- Settles O60: only an edge of RST takes anything from the trace or clears `OVR`. -/
theorem traceGrowsAndOvrStays : Obligations.TraceGrowsAndOvrStays := by
  intro s t hturn h
  obtain ⟨⟨es, htrace, -⟩, hovr⟩ | ⟨-, b, ts, hturns⟩ := step_continues h
  · exact ⟨⟨es, htrace⟩, hovr⟩
  · exact absurd (hturn (.rst b) (by simp [hturns])) Bool.false_ne_true

/-! ### Samples -/

theorem samplesReleased_append (p : Pins) (es fs : List Event) :
    samplesReleased p (es ++ fs) = (samplesReleased p es && samplesReleased (replay p es) fs) := by
  induction es generalizing p with
  | nil => rfl
  | cons e es ih => cases e <;> simp [samplesReleased, ih, replay, Event.drive, Bool.and_assoc]

/-- Events that sample only Released lines keep the trace so, if they account for the pins. -/
theorem WireFaithful.append {s t : State} (h : WireFaithful s) {es : List Event} (htrace : t.trace = s.trace ++ es)
    (hpins : t.pins = replay s.pins es) (hes : samplesReleased s.pins es = true) : WireFaithful t := by
  obtain ⟨htells, hsamples⟩ := h
  refine ⟨?_, ?_⟩
  · rw [htrace, replay_append, htells, hpins]
  · rw [htrace, samplesReleased_append, hsamples, htells, hes, Bool.and_self]

/-- The line an action samples. -/
def Uop.sampled : Uop → Option Line
  | .smpRead l | .smpCfg l => some l
  | .smpAck => some .dio
  | .rel _ | .pul _ | .dly _ | .setDio | .bDeinit | .load _ | .loadFrame _ | .shift => none
  | .setSession _ | .setLc _ | .setFailIdx _ | .setErr _ => none

/-- The lines known to be Released after an action, from those known before it. -/
def Uop.keepsReleased (known : List Line) : Uop → List Line
  | .rel l => l :: known
  | .pul l => known.filter (· ≠ l)
  | .setDio => known.filter (· ≠ .dio)
  | .dly _ | .smpRead _ | .smpCfg _ | .smpAck | .bDeinit | .load _ | .loadFrame _ | .shift => known
  | .setSession _ | .setLc _ | .setFailIdx _ | .setErr _ => known

/-- The action samples no line, or one that is known to be Released. -/
def Uop.sampleSafe (known : List Line) (u : Uop) : Bool := u.sampled.all fun l => decide (l ∈ known)

/-- Every action of the list is sample-safe where it stands. -/
def samplesSafe : List Line → List Uop → Bool
  | _, [] => true
  | known, u :: us => u.sampleSafe known && samplesSafe (u.keepsReleased known) us

/-- Every action of an expansion is sample-safe where it stands, on every path. -/
def itemsSafe : List Line → List Item → Bool
  | _, [] => true
  | known, .op u :: rest => u.sampleSafe known && itemsSafe (u.keepsReleased known) rest
  | known, .guard _ other :: rest => samplesSafe known other && itemsSafe known rest
  | known, .backendInit other :: rest => samplesSafe known other && itemsSafe known rest

theorem State.dir_pins (s : State) (l : Line) : s.pins.get l = s.dir l := by cases l <;> rfl

theorem State.dir_setDir (s : State) (l m : Line) (d : Dir) : (s.setDir l d).dir m = if m = l then d else s.dir m := by
  cases l <;> cases m <;> rfl

theorem Uop.perform_released (u : Uop) (s : State) {known : List Line} (h : ∀ l ∈ known, s.dir l = .released) :
    ∀ l ∈ u.keepsReleased known, (u.perform s).dir l = .released := by
  intro m hm
  cases u with
  | rel l =>
    show (s.setDir l .released).dir m = .released
    rw [State.dir_setDir]
    split
    · rfl
    · rename_i hne
      exact h m ((List.mem_cons.mp hm).resolve_left hne)
  | pul l =>
    obtain ⟨hmem, hne⟩ := List.mem_filter.mp hm
    show (s.setDir l .pulled).dir m = .released
    rw [State.dir_setDir, if_neg (of_decide_eq_true hne)]
    exact h m hmem
  | setDio =>
    obtain ⟨hmem, hne⟩ := List.mem_filter.mp hm
    show (s.setDir .dio _).dir m = .released
    rw [State.dir_setDir, if_neg (of_decide_eq_true hne)]
    exact h m hmem
  | smpCfg l => cases l <;> cases m <;> exact h _ hm
  | _ => cases m <;> exact h _ hm

theorem Uop.perform_wireFaithful (u : Uop) {s : State} {known : List Line} (hw : WireFaithful s)
    (h : ∀ l ∈ known, s.dir l = .released) (hu : u.sampleSafe known = true) : WireFaithful (u.perform s) := by
  have hsmp : ∀ l b, l ∈ known → samplesReleased s.pins [.smp l b] = true := by
    intro l b hl
    simp [samplesReleased, State.dir_pins, h l hl]
  refine hw.append (u.perform_trace s) (u.perform_pins s) ?_
  cases u with
  | smpRead l | smpCfg l => exact hsmp l _ (of_decide_eq_true hu)
  | smpAck => exact hsmp .dio _ (of_decide_eq_true hu)
  | setDio =>
    rw [Uop.events]
    split <;> rfl
  | _ => rfl

theorem runUops_wireFaithful (us : List Uop) {known : List Line} {s : State} (hw : WireFaithful s)
    (h : ∀ l ∈ known, s.dir l = .released) (hus : samplesSafe known us = true) : WireFaithful (runUops us s) := by
  induction us generalizing known s with
  | nil => exact hw
  | cons u us ih =>
    rw [samplesSafe, Bool.and_eq_true] at hus
    exact ih (u.perform_wireFaithful hw h hus.1) (u.perform_released s h) hus.2

/-- An expansion that is sample-safe never samples a Pulled line, whatever path it takes (R36). -/
theorem run_wireFaithful (is : List Item) {known : List Line} {s : State} (hw : WireFaithful s)
    (h : ∀ l ∈ known, s.dir l = .released) (his : itemsSafe known is = true) : WireFaithful (run is s) := by
  induction is generalizing known s with
  | nil => exact hw
  | cons i is ih =>
    cases i with
    | op u =>
      rw [itemsSafe, Bool.and_eq_true] at his
      exact ih (u.perform_wireFaithful hw h his.1) (u.perform_released s h) his.2
    | guard c other =>
      rw [itemsSafe, Bool.and_eq_true] at his
      rw [run]
      split
      · exact ih hw h his.2
      · exact runUops_wireFaithful other hw h his.1
    | backendInit other =>
      rw [itemsSafe, Bool.and_eq_true] at his
      have hup : WireFaithful s.bInit := hw.append (es := [.bInit s.initAnswer]) rfl rfl rfl
      have hdir : ∀ l ∈ known, s.bInit.dir l = .released := by
        intro l hl
        rw [← h l hl]
        cases l <;> rfl
      rw [run]
      split
      · exact ih hup hdir his.2
      · exact runUops_wireFaithful other hup hdir his.1

theorem itemsSafe_items_append (us : List Uop) {rest : List Item} {known : List Line}
    (hus : samplesSafe known us = true) (hrest : ∀ known, itemsSafe known rest = true) :
    itemsSafe known (items us ++ rest) = true := by
  induction us generalizing known with
  | nil => exact hrest known
  | cons u us ih =>
    rw [samplesSafe, Bool.and_eq_true] at hus
    rw [items_cons, List.cons_append, itemsSafe, hus.1, ih hus.2, Bool.and_self]

/-- Each byte of a burst releases DIO before it samples the ACK, whatever came before (R172, R230). -/
theorem itemsSafe_burst (ks : List (Fin 5)) {rest : List Item} (hrest : ∀ known, itemsSafe known rest = true)
    (known : List Line) : itemsSafe known (ks.flatMap burstByte ++ rest) = true := by
  induction ks generalizing known with
  | nil => exact hrest known
  | cons k ks ih =>
    rw [List.flatMap_cons, burstByte, List.append_assoc, List.append_assoc]
    refine itemsSafe_items_append _ rfl fun known' => ?_
    rw [List.singleton_append, itemsSafe, ih, Bool.and_true]
    rfl

theorem itemsSafe_writeFrameBody (n : Nat) : itemsSafe [] (writeFrameBody n) = true := by
  rw [writeFrameBody, List.append_assoc]
  refine itemsSafe_items_append _ rfl fun known => itemsSafe_burst _ (fun known' => ?_) known
  rw [← List.append_nil (items _)]
  exact itemsSafe_items_append _ rfl fun _ => rfl

/-- Every command releases a line before it samples it, but for READ, which checks that it is Released (R36, R142). -/
theorem expansion_itemsSafe (n : Nat) {i : Instr} {s : State} (h : firstError (commandChecks i) s = none) :
    ∃ known : List Line, (∀ l ∈ known, s.dir l = .released) ∧ itemsSafe known (expansion n i) = true := by
  cases i
  case read l =>
    have hdir : s.dir l = .released := by
      by_contra hpulled
      cases hlc : s.lc == .ready <;> simp [commandChecks, firstError, Check.passes, hlc, hpulled] at h
    refine ⟨[l], by simpa using hdir, ?_⟩
    cases l <;> rfl
  case writeFrame => exact ⟨[], by simp, itemsSafe_writeFrameBody n⟩
  all_goals exact ⟨[], by simp, rfl⟩

theorem wireFaithful_exec {i : Instr} {s t : State} (hw : WireFaithful s) (h : exec i s = .next t) :
    WireFaithful t := by
  obtain ⟨e, rfl⟩ | ⟨-, f, k, n, -, rfl⟩ | ⟨-, hchecks, rfl⟩ := exec_cases h
  · exact hw
  · exact hw
  · obtain ⟨known, hknown, hsafe⟩ := expansion_itemsSafe s.flen.toNat hchecks
    exact run_wireFaithful (s := s.accept) _ hw hknown hsafe

theorem betweenCommands_wireFaithful : BetweenCommands WireFaithful where
  host _ _ _ _ h := h
  reset _ _ := ⟨rfl, rfl⟩
  command _ _ _ h := h
  exec _ _ _ _ := wireFaithful_exec

/-- Settles O58: no command samples a Pulled line, and the other agents add no event. -/
theorem stepKeepsWireFaithful : Obligations.StepKeepsWireFaithful :=
  fun _ _ hq hw hstep => betweenCommands_wireFaithful.settles_step hq hw hstep

/-! ### Pulls -/

/-- The action never pulls a line. -/
def Uop.noPull : Uop → Bool
  | .pul _ | .setDio => false
  | .rel _ | .dly _ | .smpRead _ | .smpCfg _ | .smpAck | .bDeinit | .load _ | .loadFrame _ | .shift => true
  | .setSession _ | .setLc _ | .setFailIdx _ | .setErr _ => true

theorem run_noPull (is : List Item) (s : State) (h : is.all (Item.all Uop.noPull) = true)
    (hs : ∀ l, Event.pul l ∉ s.trace) : ∀ l, Event.pul l ∉ (run is s).trace := by
  refine run_induction (R := fun t => ∀ l, Event.pul l ∉ t.trace) (fun u t hu ht l => ?_) (fun t ht l => ?_) is s h hs
  · rw [u.perform_trace, List.mem_append, not_or]
    refine ⟨ht l, ?_⟩
    cases u <;> simp_all [Uop.noPull, Uop.events]
  · simp [State.bInit, ht l]

/-- A command that leaves the block unvalidated has pulled no line: it is INIT, or did nothing on the wires (R163). -/
theorem noTrafficUnvalidated_exec {i : Instr} {s t : State} (hp : NoTrafficUnvalidated s) (h : exec i s = .next t) :
    NoTrafficUnvalidated t := by
  obtain ⟨e, rfl⟩ | ⟨-, f, k, n, -, rfl⟩ | ⟨hkeep, hchecks, ht⟩ := exec_cases h
  · exact hp
  · exact hp
  · obtain hready | ⟨rfl, huninit⟩ := ready_of_checks hkeep hchecks
    · intro hlc
      obtain hsame | ⟨-, huninit, -⟩ | ⟨-, -, hoff⟩ := lifecycleTransitions i s t h
      · simp [hsame, hready] at hlc
      · simp [hready] at huninit
      · simp [hoff] at hlc
    · rw [ht]
      exact fun _ => run_noPull initBody s.accept rfl (hp (.inl huninit))

theorem betweenCommands_noTrafficUnvalidated : BetweenCommands NoTrafficUnvalidated where
  host _ _ _ _ h := h
  reset _ _ := by simp [NoTrafficUnvalidated, State.reset]
  command _ _ _ h := h
  exec _ _ _ _ := noTrafficUnvalidated_exec

/-- Settles O59: only INIT runs on the wires before READY, and it pulls nothing. -/
theorem stepKeepsNoTrafficUnvalidated : Obligations.StepKeepsNoTrafficUnvalidated :=
  fun _ _ hq hp hstep => betweenCommands_noTrafficUnvalidated.settles_step hq hp hstep

/-- Settles O54: each invariant holds of a block that is reset, whatever the other agents do, and so after reset. -/
theorem invariantsHoldAtReset : Obligations.InvariantsHoldAtReset :=
  ⟨betweenCommands_quiet.settles_resetBlock (s := State.reset) false,
    betweenCommands_wireFaithful.settles_resetBlock (s := State.reset) false,
    betweenCommands_noTrafficUnvalidated.settles_resetBlock (s := State.reset) false⟩

end Sys2Proof.Machine

/-! PROOF. One entry at a time to the end of the command (R38, R81): each turn leaves less to do and the same end. -/

namespace Sys2Proof.Machine

/-- How many entries the longest path through what is left to do can still have. -/
def Item.size : Item → Nat
  | .op _ => 1
  | .guard _ other => other.length + 1
  | .backendInit other => other.length + 1

/-- The same of a whole expansion. -/
def todoSize (is : List Item) : Nat := (is.map Item.size).sum

theorem todoSize_items (us : List Uop) : todoSize (items us) = us.length := by
  simp [todoSize, items, Function.comp_def, Item.size]

/-- A turn of one entry leaves less to do, on either path of a branch. -/
theorem Item.perform_todoSize (item : Item) (rest : List Item) (s : State) :
    todoSize (item.perform rest s).todo < todoSize (item :: rest) := by
  have hcons : todoSize (item :: rest) = item.size + todoSize rest := by simp [todoSize]
  have hbranch : ∀ (b : Bool) (us : List Uop),
      todoSize (if b then rest else items us) < us.length + 1 + todoSize rest := by
    intro b us
    cases b with
    | false =>
      simp [todoSize_items]
      omega
    | true => simp
  rw [hcons]
  cases item with
  | op u => exact Nat.lt_add_of_pos_left Nat.one_pos
  | guard c other => exact hbranch (c.holds s) other
  | backendInit other => exact hbranch s.initAnswer other

theorem microTurns_succ {s t : State} (n : Nat) (h : microTurn s = .next t) :
    microTurns (n + 1) s = microTurns n t := by
  rw [microTurns, h]

/-- The next entry performed, and the end of the command if it was the last. -/
theorem microTurn_begun {s : State} {w : Word} {item : Item} {rest : List Item} (hrst : s.rst = false)
    (hcur : s.cur = some w) (htodo : s.todo = item :: rest) :
    microTurn s = .next (item.perform rest s).endIfDone := by
  simp [microTurn, hrst, hcur, htodo]

/-- After an entry, the command is at its end or has entries left. -/
theorem State.endIfDone_idle_or_begun (s : State) :
    (s.endIfDone.rst = true ∨ s.endIfDone.cur = none) ∨ s.endIfDone.todo ≠ [] ∧ s.endIfDone = s := by
  unfold State.endIfDone
  split
  · exact .inl (.inr rfl)
  · rename_i hleft
    exact .inr ⟨hleft, rfl⟩

/-- A command that has begun, or none at all, comes to its end one entry at a time. -/
theorem microTurns_reach_end (s : State) (h : (s.rst = true ∨ s.cur = none) ∨ s.todo ≠ []) :
    ∃ n, microTurns n s = finishTurn s := by
  by_cases hidle : s.rst = true ∨ s.cur = none
  · exact ⟨0, (finishTurn_idle hidle).symm⟩
  · obtain ⟨item, rest, htodo⟩ := List.exists_cons_of_ne_nil (h.resolve_left hidle)
    rw [not_or, Bool.not_eq_true] at hidle
    obtain ⟨hrst, hcur⟩ := hidle
    obtain ⟨w, hw⟩ := Option.ne_none_iff_exists'.mp hcur
    have hturn := microTurn_begun hrst hw htodo
    have hnext : ∃ n, microTurns n (item.perform rest s).endIfDone = finishTurn (item.perform rest s).endIfDone := by
      obtain hdone | ⟨hleft, hsame⟩ := (item.perform rest s).endIfDone_idle_or_begun
      · exact ⟨0, (finishTurn_idle hdone).symm⟩
      · have hless : todoSize (item.perform rest s).endIfDone.todo < todoSize s.todo := by
          rw [hsame, htodo]
          exact item.perform_todoSize rest s
        exact microTurns_reach_end _ (.inr hleft)
    obtain ⟨n, hn⟩ := hnext
    exact ⟨n + 1, by rw [microTurns_succ n hturn, hn, finishTurn_of_microTurn s _ hturn]⟩
termination_by todoSize s.todo

/-- Settles O13: the first turn takes the command up, turns it away or stops as the command does, and from there the
entries left come to the same end. -/
theorem microTurnsReachTheCommandsEnd : Obligations.MicroTurnsReachTheCommandsEnd := by
  intro s
  by_cases hbegun : (s.rst = true ∨ s.cur = none) ∨ s.todo ≠ []
  · exact microTurns_reach_end s hbegun
  · rw [not_or, not_or, Bool.not_eq_true, not_not] at hbegun
    obtain ⟨⟨hrst, hcur⟩, htodo⟩ := hbegun
    obtain ⟨w, hw⟩ := Option.ne_none_iff_exists'.mp hcur
    cases hd : decode w with
    | error e => exact ⟨1, by simp [microTurns, microTurn, finishTurn, hrst, hw, htodo, hd]⟩
    | ok i =>
      cases hi : issue i s with
      | fault f => exact ⟨1, by simp [microTurns, microTurn, finishTurn, hrst, hw, htodo, hd, exec_eq_issue, hi]⟩
      | refused r => exact ⟨1, by simp [microTurns, microTurn, finishTurn, hrst, hw, htodo, hd, exec_eq_issue, hi]⟩
      | next u =>
        have hturn : microTurn s = .next u.endIfDone := by simp [microTurn, hrst, hw, htodo, hd, hi]
        obtain ⟨n, hn⟩ := microTurns_reach_end u.endIfDone (u.endIfDone_idle_or_begun.imp_right (·.1))
        exact ⟨n + 1, by rw [microTurns_succ n hturn, hn, finishTurn_of_microTurn s _ hturn]⟩

end Sys2Proof.Machine

/-! PROOF. The step, the port and the registers (R38, R47 to R49, R71 to R74, R82), and single commands (R142, R230). -/

namespace Sys2Proof.Machine

/-! ### The step -/

theorem step_of_no_turns {s : State} (h : s.turns = []) : step s = finishTurn s := by
  rw [step, h]

theorem step_of_turn {s : State} {t : Turn} {ts : List Turn} (h : s.turns = t :: ts) :
    step s = t.perform { s with turns := ts } := by
  rw [step, h]

/-- Settles O7: in both situations it is the sequencer's turn to the end of the command. -/
theorem stepRunsTheLatchedCommand : Obligations.StepRunsTheLatchedCommand := by
  intro s w i hrst hcur htodo hd
  refine ⟨fun hturns => ?_, fun ts hturns => ?_⟩
  · rw [step_of_no_turns hturns]
    exact finishTurn_decoded hrst hcur htodo hd
  · rw [step_of_turn hturns]
    exact finishTurn_decoded (s := { s with turns := ts }) hrst hcur htodo hd

/-- A table word that decodes is the word of `decode` (R105). -/
theorem decode_of_decodeTableWord {nbits w : Nat} {i : Instr} (h : decodeTableWord nbits w = some i) :
    decode (BitVec.ofNat 32 (w % 2 ^ nbits)) = .ok i := by
  unfold decodeTableWord at h
  split at h
  · cases hd : decode (BitVec.ofNat 32 (w % 2 ^ nbits)) with
    | ok j =>
      rw [hd] at h
      exact congrArg Except.ok (Option.some.inj h)
    | error e =>
      rw [hd] at h
      cases h
  · cases h

/-- Settles O8: the placed word is latched and not begun, and the sequencer's turn to the end of it is next. -/
theorem stepRunsThePlacedWord : Obligations.StepRunsThePlacedWord := by
  intro s nbits w i h
  exact finishTurn_decoded (s := { s with cur := some _, ustep := 0, todo := [], rst := false }) rfl rfl rfl
    (decode_of_decodeTableWord h)

/-- A 32-bit write at offset 0 is a CMD write (R71). -/
theorem step_of_cmdWrite {s : State} {w : Word} {ts : List Turn} (h : s.turns = .access (.write 0 32 w) :: ts) :
    step s = .next (writeCmd w { s with turns := ts }) := step_of_turn h

/-- Settles O9: a CMD write to the idle block latches the word. -/
theorem cmdWriteStartsACommand : Obligations.CmdWriteStartsACommand := by
  intro s w ts hrst hcur hturns
  rw [step_of_cmdWrite hturns]
  simp [writeCmd, State.busy, hrst, hcur]

/-- Settles O10: a CMD write to the busy block is dropped. -/
theorem cmdWriteWhileBusyOnlySetsOvr : Obligations.CmdWriteWhileBusyOnlySetsOvr := by
  intro s v w ts hrst hcur hturns
  rw [step_of_cmdWrite hturns]
  simp [writeCmd, State.busy, hrst, hcur]

/-- Settles O12: each of the three ends of a command is the end of R82. -/
theorem commandsEndIdle : Obligations.CommandsEndIdle := by
  intro i s t h
  obtain ⟨hcur, hustep, htodo⟩ := exec_ends h
  exact ⟨hcur, hustep, by rw [State.busy, hcur]; rfl, htodo⟩

/-! ### The port -/

/-- A 32-bit access at a multiple of 4 names the register at that word (R71, R72). -/
theorem portAddress_of_word : ∀ a : BitVec 2, portAddress (a ++ 0#2) 32 = some a := by decide

/-- A 32-bit read at a multiple of 4 adds the register's word to the host's record (R71, R73). -/
theorem step_of_read {s : State} (a : BitVec 2) {ts : List Turn} (h : s.turns = .access (.read (a ++ 0#2) 32) :: ts) :
    step s = .next { s with turns := ts, readLog := s.readLog ++ [(a, s.readReg (portReg a))] } := by
  rw [step_of_turn h, Turn.perform, accessTurn, portAddress_of_word]
  rfl

/-- Settles O16: the four registers at their addresses, read while the fields are stable. -/
theorem idleReadsReturnTheRegisters : Obligations.IdleReadsReturnTheRegisters := by
  intro s a ts hrst hcur hturns
  have hstable : ∀ r, s.readReg r = readStable s r := by
    intro r
    simp [State.readReg, State.busy, hrst, hcur]
  have hword : readStable s (portReg a) =
      if a = 0 then 0 else if a = 1 then statusWord s
      else if a = 2 then s.fb.b3 ++ s.fb.b2 ++ s.fb.b1 ++ s.fb.b0 else 0#24 ++ s.fb.b4 := by
    unfold portReg
    split
    · rfl
    · split
      · rfl
      · split <;> rfl
  rw [step_of_read a hturns, hstable, hword]

/-- The busy STATUS read (R74), at the width that is the sum of its fields'. -/
def busyBits (s : State) (f : Word) : BitVec (9 + 7 + 1 + 14 + 1) :=
  0#9 ++ f.extractLsb' 16 7 ++ BitVec.ofBool s.ovr ++ f.extractLsb' 1 14 ++ 1#1

theorem readBusy_status_getLsbD (s : State) (f : Word) (i : Nat) :
    (readBusy s f .status).getLsbD i = (busyBits s f).getLsbD i := rfl

theorem readBusy_status_extractLsb' (s : State) (f : Word) (lo n : Nat) :
    (readBusy s f .status).extractLsb' lo n = (busyBits s f).extractLsb' lo n := rfl

/-- Settles O17: while a command runs the word of STATUS is the busy one, of which three fields are fixed (R74). -/
theorem busyStatusReadFixesBusyAndOvr : Obligations.BusyStatusReadFixesBusyAndOvr := by
  intro s v ts hrst hcur hturns
  have hbusy : s.readReg .status = readBusy s (Config.busyRead s.readLog.length) .status := by
    simp [State.readReg, State.busy, hrst, hcur]
  refine ⟨s.readReg .status, step_of_read 1 hturns, ?_, ?_, ?_⟩ <;> rw [hbusy]
  · simp only [readBusy_status_getLsbD, busyBits, BitVec.getLsbD_append]
    simp
  · simp only [readBusy_status_getLsbD, busyBits, BitVec.getLsbD_append]
    simp
  · simp (disch := omega) only [readBusy_status_extractLsb', busyBits, BitVec.extractLsb'_append_eq_of_le]
    simp

/-- The fields of STATUS side by side (R47), at the width that is the sum of theirs. -/
def statusBits (s : State) : BitVec (9 + 3 + 2 + 1 + 1 + 1 + 3 + 4 + 2 + 1 + 1 + 1 + 1 + 1 + 1) :=
  0#9 ++ s.flen ++ s.fkind.code ++ BitVec.ofBool s.cfgClkLow ++ BitVec.ofBool s.cfgDioLow ++ BitVec.ofBool s.ovr ++
    s.failIdx ++ s.err.code ++ s.lc.code ++ s.dirClk.bit ++ s.dirDio.bit ++ BitVec.ofBool s.session ++
    BitVec.ofBool s.rdata ++ BitVec.ofBool s.ack ++ BitVec.ofBool s.busy

theorem statusWord_getLsbD (s : State) (i : Nat) : (statusWord s).getLsbD i = (statusBits s).getLsbD i := rfl

theorem statusWord_extractLsb' (s : State) (lo n : Nat) :
    (statusWord s).extractLsb' lo n = (statusBits s).extractLsb' lo n := rfl

theorem Dir.getLsbD_bit (d : Dir) : d.bit.getLsbD 0 = true ↔ d = .pulled := by
  cases d <;> decide

/-- The one-bit fields of STATUS at their places. -/
theorem statusWord_bits (s : State) :
    (statusWord s).getLsbD 0 = s.cur.isSome ∧ (statusWord s).getLsbD 1 = s.ack ∧ (statusWord s).getLsbD 2 = s.rdata ∧
      (statusWord s).getLsbD 3 = s.session ∧ (statusWord s).getLsbD 4 = s.dirDio.bit.getLsbD 0 ∧
      (statusWord s).getLsbD 5 = s.dirClk.bit.getLsbD 0 ∧ (statusWord s).getLsbD 15 = s.ovr ∧
      (statusWord s).getLsbD 16 = s.cfgDioLow ∧ (statusWord s).getLsbD 17 = s.cfgClkLow := by
  simp only [statusWord_getLsbD, statusBits, BitVec.getLsbD_append]
  simp [State.busy]

/-- The wider fields of STATUS at their places. -/
theorem statusWord_fields (s : State) :
    (statusWord s).extractLsb' 6 2 = s.lc.code ∧ (statusWord s).extractLsb' 8 4 = s.err.code ∧
      (statusWord s).extractLsb' 12 3 = s.failIdx ∧ (statusWord s).extractLsb' 18 2 = s.fkind.code ∧
      (statusWord s).extractLsb' 20 3 = s.flen ∧ (statusWord s).extractLsb' 23 9 = 0 := by
  refine ⟨?_, ?_, ?_, ?_, ?_, ?_⟩ <;>
    simp (disch := omega) only [statusWord_extractLsb', statusBits, BitVec.extractLsb'_append_eq_of_le,
      BitVec.extractLsb'_append_eq_of_add_le] <;>
    simp

/-- Settles O15: each field of STATUS stands at its place in the concatenation of R47, by its code. -/
theorem statusWordHasTheFields : Obligations.StatusWordHasTheFields := by
  refine ⟨fun s => ?_, rfl, rfl, rfl⟩
  obtain ⟨hbusy, hack, hrdata, hses, hdio, hclk, hovr, hcfgDio, hcfgClk⟩ := statusWord_bits s
  obtain ⟨hlc, herr, hidx, hkind, hlen, hreserved⟩ := statusWord_fields s
  rw [hdio, hclk]
  exact ⟨hbusy, hack, hrdata, hses, s.dirDio.getLsbD_bit, s.dirClk.getLsbD_bit, hlc, herr, hidx, hovr, hcfgDio, hcfgClk,
    hkind, hlen, hreserved⟩

/-! ### Pins and reset -/

/-- Settles O19: the output data is constant, and the enable is read off the direction of its own line. -/
theorem pinsFollowTheDirections : Obligations.PinsFollowTheDirections := by
  intro s l
  refine ⟨rfl, ?_⟩
  cases l <;> simp [State.lineOe, State.dir]

/-- Settles O20: field by field from the definition of the reset state. -/
theorem resetValues : Obligations.ResetValues :=
  ⟨rfl, rfl, fun _ => rfl, rfl, rfl, rfl, rfl, rfl, rfl, rfl, rfl, rfl, rfl, rfl, rfl, rfl, rfl, rfl, rfl, rfl, rfl⟩

/-! ### READ and WRITE_FRAME -/

/-- READ of a Released line past its checks takes one sample (R142). -/
theorem exec_read_of_released {l : Line} {s : State} (hlc : s.lc = .ready) (hdir : s.dir l = .released) :
    exec (.read l) s =
      .next (Uop.perform (.smpRead l) { s with err := .ok, ustep := 0, todo := items [.smpRead l] }).endCommand := by
  have hchecks : firstError [.ready, .released l] s = none := by
    simp [firstError, Check.passes, hlc, hdir]
  exact congrArg Host.Outcome.next (complete_issueWith_items _ [.smpRead l] s hchecks)

/-- Settles O24: past its two checks READ is one sample into `RDATA`. -/
theorem readResult : Obligations.ReadResult := by
  intro l s hlc hdir
  have hdir' : s.dir l = .released := by cases l <;> exact hdir
  rw [exec_read_of_released hlc hdir', List.drop_one]
  rfl

/-- Settles O25: the next answer the environment has is the level READ returns. -/
theorem readAdmitsEitherLevel : Obligations.ReadAdmitsEitherLevel := by
  intro l s b hlc hdio hclk
  have hdir : State.dir { s with samples := b :: s.samples } l = .released := by cases l <;> assumption
  exact ⟨_, exec_read_of_released (s := { s with samples := b :: s.samples }) hlc hdir, rfl, rfl⟩

/-- Settles O42: past its checks, the command takes up nothing with a frame longer than the buffer. -/
theorem writeFrameStopsOnALongFrame : Obligations.WriteFrameStopsOnALongFrame := by
  intro s hlc hses hkind hlong
  have hchecks : firstError [.ready, .session false, .framePresent] s = none := by
    simp [firstError, Check.passes, hlc, hses, hkind]
  have hissue : issueWriteFrame s = .fault .frameIndex := by
    simp [issueWriteFrame, hchecks, hlong]
  rw [exec, execWriteFrame, hissue]

end Sys2Proof.Machine

/-! PROOF. Host accesses that change nothing in a command or have no meaning (R72, R73, R82), and WRITE_BYTE (R176). -/

namespace Sys2Proof.Machine

/-! ### Commands -/

/-- Settles O11: `OVR` is the host's, and nothing of the host's has a part in how a command ends. -/
theorem droppedWriteLeavesTheCommand : Obligations.DroppedWriteLeavesTheCommand := by
  intro s t h
  obtain ⟨-, -, -, hturns, hlog⟩ := finishTurn_extends h
  have hend : t.withHost s.turns s.readLog true = { t with ovr := true } := by
    rw [← hturns, ← hlog]
    rfl
  exact (finishTurn_withHost s.turns s.readLog true h).trans (congrArg Host.Outcome.next hend)

/-- Settles O30: past its checks WRITE_BYTE is `WBODY`, and its end (R172). -/
theorem writeByteResult : Obligations.WriteByteResult := by
  intro b s hlc hses
  rw [exec_writeByte_of_session b s hlc hses, runUops_wBody]
  rfl

/-! ### The port -/

/-- A 32-bit write at a multiple of 4 is a write of the register at that word (R71, R73). -/
theorem step_of_write {s : State} (a : BitVec 2) {w : Word} {ts : List Turn}
    (h : s.turns = .access (.write (a ++ 0#2) 32 w) :: ts) :
    step s = .next (writeReg (portReg a) w { s with turns := ts }) := by
  rw [step_of_turn h, Turn.perform, accessTurn, portAddress_of_word]

/-- Settles O14: the three registers that are not CMD take no write (R73). -/
theorem otherPortWritesAreIgnored : Obligations.OtherPortWritesAreIgnored := by
  intro s o w ts ho hturns
  simp only [List.mem_cons, List.not_mem_nil, or_false] at ho
  obtain rfl | rfl | rfl := ho
  · exact step_of_write 1 hturns
  · exact step_of_write 2 hturns
  · exact step_of_write 3 hturns

/-- An access of another width, or between the words, names no register (R72). -/
theorem portAddress_eq_none {o : BitVec 4} {n : Nat} (h : n ≠ 32 ∨ o.toNat % 4 ≠ 0) : portAddress o n = none := by
  refine if_neg fun ⟨hwidth, hlow⟩ => h.elim (absurd hwidth) fun hoffset => hoffset ?_
  simpa using congrArg BitVec.toNat hlow

/-- Settles O18: an access of either kind that names no register is refused (R72). -/
theorem otherAccessesAreRefused : Obligations.OtherAccessesAreRefused := by
  intro s o n w ts hshape hturns
  obtain hread | hwrite := hturns
  · rw [step_of_turn hread, Turn.perform, accessTurn, portAddress_eq_none hshape]
  · rw [step_of_turn hwrite, Turn.perform, accessTurn, portAddress_eq_none hshape]

end Sys2Proof.Machine

/-! PROOF. WRITE_FRAME as a whole (R230 to R232): the state it ends in when the burst is acknowledged and when it is
not, and the brackets a receiver sees of it (R75, R76, R127). -/

namespace Sys2Proof.Machine

/-! ### The command -/

/-- WRITE_FRAME past its checks, with a length the buffer has, runs its expansion and ends (R230). -/
theorem exec_writeFrame_of_frame {s : State} (hlc : s.lc = .ready) (hses : s.session = false) (hkind : s.fkind ≠ .none)
    (hlen : s.flen.toNat ≤ 5) :
    exec .writeFrame s = .next (run (writeFrameBody s.flen.toNat) s.accept).endCommand := by
  have hchecks : firstError [.ready, .session false, .framePresent] s = none := by
    simp [firstError, Check.passes, hlc, hses, hkind]
  have hissue : issueWriteFrame s = .next { s.accept with todo := writeFrameBody s.flen.toNat } := by
    simp [issueWriteFrame, hchecks, hlen]
  rw [exec, execWriteFrame, hissue]
  simp only [State.complete, run_todo]
  rfl

/-- The data command, START, and then bytes of the frame, each acknowledged (R230). -/
theorem run_writeFrame_burst (ks : List (Fin 5)) (rest : List Item) (s : State)
    (h : ∀ j < ks.length, s.answer (j + 1) = false) :
    run (items (sBody Config.dataCmd ++ startB) ++ (ks.flatMap burstByte ++ rest)) s =
      run rest
        { s with
          dirDio := if ks.isEmpty then .pulled else .released
          dirClk := .pulled, session := true
          ack := if ks.isEmpty then !s.answer 0 else true
          sr := 0, bc := 8
          samples := s.samples.drop (ks.length + 1), draws := s.draws + (ks.length + 1)
          trace := s.trace ++ (commandEvents Config.dataCmd (s.answer 0) ++ startEvents ++
            ks.flatMap (fun k => byteEvents (s.fb.get k) false))
          ustep := s.ustep + (64 + 46 * ks.length) } := by
  rw [run_items_append, runUops_append, runUops_sBody, runUops_startB, run_burst_acked]
  · congr 1
    simp [Nat.add_assoc, Nat.add_comm 1]
  · intro j hj
    rw [State.answer_of_drawn s _ 1 j rfl rfl, Nat.add_comm]
    exact h j hj

/-- WRITE_FRAME's expansion when every frame byte is acknowledged (R231). -/
theorem run_writeFrameBody_acked {n : Nat} (hn : n ≤ 5) (s : State) (h : ∀ k < n, s.answer (k + 1) = false) :
    run (writeFrameBody n) s =
      { s with
        dirDio := .released, dirClk := .released, session := false, sr := 0, bc := 8
        ack := !s.answer (n + 1), failIdx := 0
        samples := s.samples.drop (n + 2), draws := s.draws + (n + 2)
        trace := s.trace ++ writeFrameEvents s.fb n (s.answer 0) (s.answer (n + 1))
        ustep := s.ustep + (128 + 46 * n) } := by
  have hlength := length_frameIndices n hn
  rw [writeFrameBody, List.append_assoc, run_writeFrame_burst _ _ s (by rwa [hlength]), run_items, runUops_append,
    runUops_append, runUops_stopB, runUops_sBody, hlength]
  simp [Uop.perform, writeFrameEvents, burstEvents, State.answer, Nat.add_assoc]
  omega

/-- WRITE_FRAME's expansion when byte `k` is the first not acknowledged (R232). -/
theorem run_writeFrameBody_nacked {n : Nat} (hn : n ≤ 5) (k : Fin 5) (hk : k.val < n) (s : State)
    (hacked : ∀ j < k.val, s.answer (j + 1) = false) (hnack : s.answer (k.val + 1) = true) :
    run (writeFrameBody n) s =
      { s with
        dirDio := .released, dirClk := .released, session := false, sr := 0, bc := 8
        ack := false, failIdx := BitVec.ofNat 3 k.val, err := .protocol
        samples := s.samples.drop (k.val + 2), draws := s.draws + (k.val + 2)
        trace := s.trace ++ nackEvents s.fb k (s.answer 0)
        ustep := s.ustep + (116 + 46 * k.val) } := by
  obtain ⟨more, hsplit⟩ := frameIndices_split n k hk hn
  have hlength := length_frameIndices k.val (by omega)
  rw [writeFrameBody, hsplit, List.flatMap_append, List.flatMap_cons, List.append_assoc, List.append_assoc,
    List.append_assoc, run_writeFrame_burst _ _ s (by rwa [hlength]), run_burst_nacked, hlength]
  · simp [nackEvents, burstEvents, Nat.add_assoc]
    omega
  · rw [hlength, State.answer_of_drawn s _ (k.val + 1) 0 rfl rfl]
    exact hnack

/-! ### Brackets -/

/-- The events of a START…STOP bracket around bytes, each with the level its ACK sample reads (R127). -/
def bracketEvents (bs : List (Byte × Bool)) : List Event :=
  startEvents ++ bs.flatMap (fun b => byteEvents b.1 b.2) ++ stopEvents

theorem commandEvents_eq_bracket (c : Byte) (a : Bool) : commandEvents c a = bracketEvents [(c, a)] := by
  rw [bracketEvents, List.flatMap_singleton]
  rfl

theorem writeFrameEvents_eq_brackets (f : Frame) (n : Nat) (a z : Bool) :
    writeFrameEvents f n a z =
      bracketEvents [(Config.dataCmd, a)] ++ bracketEvents ((frameIndices n).map fun k => (f.get k, false)) ++
        bracketEvents [(Config.disponCmd, z)] := by
  simp [writeFrameEvents, commandEvents_eq_bracket, burstEvents, bracketEvents, List.flatMap_map]

theorem nackEvents_eq_brackets (f : Frame) (k : Fin 5) (a : Bool) :
    nackEvents f k a =
      bracketEvents [(Config.dataCmd, a)] ++
        bracketEvents (((frameIndices k.val).map fun j => (f.get j, false)) ++ [(f.get k, true)]) := by
  simp [nackEvents, commandEvents_eq_bracket, burstEvents, bracketEvents, List.flatMap_map]

/-- A byte ends with CLK Pulled, whatever its bits and its ACK (R172). -/
theorem replay_byteEvents_clk (p : Pins) (b : Byte) (a : Bool) : (replay p (byteEvents b a)).clk = .pulled := by
  rw [byteEvents, replay_append]
  rfl

/-- With CLK Pulled, bytes in sequence are their clock pulses in sequence, and CLK is Pulled after them (R75). -/
theorem wireItems_bytes (bs : List (Byte × Bool)) (p : Pins) (h : p.clk = .pulled) :
    wireItems p (bs.flatMap fun b => byteEvents b.1 b.2) = (bs.map Prod.fst).flatMap byteItems ∧
      (replay p (bs.flatMap fun b => byteEvents b.1 b.2)).clk = .pulled := by
  induction bs generalizing p with
  | nil => exact ⟨rfl, h⟩
  | cons b bs ih =>
    obtain ⟨hitems, hclk⟩ := ih (replay p (byteEvents b.1 b.2)) (replay_byteEvents_clk p b.1 b.2)
    rw [List.flatMap_cons, wireItems_append, replay_append, wireItems_byteEvents b.1 b.2 p h, hitems]
    exact ⟨rfl, hclk⟩

/-- With CLK Pulled, `STOPB` is a clock pulse with DIO LOW and the STOP condition, and idles the lines (R171). -/
theorem wireItems_stopEvents (p : Pins) (h : p.clk = .pulled) :
    wireItems p stopEvents = [.clocked false, .stop] ∧ replay p stopEvents = .idle := by
  obtain ⟨dio, clk⟩ := p
  subst h
  cases dio <;> exact ⟨rfl, rfl⟩

/-- From the idle lines a receiver sees of a bracket its START, its bytes and its STOP, and the lines are idle again. -/
theorem wireItems_bracketEvents (bs : List (Byte × Bool)) :
    wireItems .idle (bracketEvents bs) = bracketItems (bs.map Prod.fst) ∧ replay .idle (bracketEvents bs) = .idle := by
  have hstart : wireItems .idle startEvents = [.start] := rfl
  obtain ⟨hbytes, hclk⟩ := wireItems_bytes bs (replay .idle startEvents) rfl
  obtain ⟨hstop, hidle⟩ := wireItems_stopEvents _ hclk
  refine ⟨?_, ?_⟩
  · rw [bracketEvents, wireItems_append, wireItems_append, replay_append, hstart, hbytes, hstop]
    rfl
  · rw [bracketEvents, replay_append, replay_append, hidle]

/-- A receiver reads a bracket, and then what follows it from the idle lines. -/
theorem wireItems_bracketEvents_append (bs : List (Byte × Bool)) (es : List Event) :
    wireItems .idle (bracketEvents bs ++ es) = bracketItems (bs.map Prod.fst) ++ wireItems .idle es := by
  obtain ⟨hitems, hidle⟩ := wireItems_bracketEvents bs
  rw [wireItems_append, hitems, hidle]

/-! ### What a receiver sees -/

/-- The bytes at the first indices are the first bytes (R70). -/
theorem map_get_frameIndices (f : Frame) (n : Nat) :
    (frameIndices n).map f.get = [f.b0, f.b1, f.b2, f.b3, f.b4].take n := List.map_take

theorem frameIndices_succ : ∀ k : Fin 5, frameIndices (k.val + 1) = frameIndices k.val ++ [k] := by decide

/-- An acknowledged WRITE_FRAME is three brackets (R231). -/
theorem wireItems_writeFrameEvents (f : Frame) (n : Nat) (a z : Bool) :
    wireItems .idle (writeFrameEvents f n a z) =
      bracketItems [Config.dataCmd] ++ bracketItems ([f.b0, f.b1, f.b2, f.b3, f.b4].take n) ++
        bracketItems [Config.disponCmd] := by
  rw [writeFrameEvents_eq_brackets, List.append_assoc, wireItems_bracketEvents_append, wireItems_bracketEvents_append,
    (wireItems_bracketEvents _).1, List.map_map, ← map_get_frameIndices, List.append_assoc]
  rfl

/-- A WRITE_FRAME with a NACK on byte `k` is two brackets, the second with the bytes up to `k` (R232). -/
theorem wireItems_nackEvents (f : Frame) (k : Fin 5) (a : Bool) :
    wireItems .idle (nackEvents f k a) =
      bracketItems [Config.dataCmd] ++ bracketItems ([f.b0, f.b1, f.b2, f.b3, f.b4].take (k.val + 1)) := by
  rw [nackEvents_eq_brackets, wireItems_bracketEvents_append, (wireItems_bracketEvents _).1, List.map_append,
    List.map_map, ← map_get_frameIndices, frameIndices_succ, List.map_append]
  rfl

/-- Settles O44: the events WRITE_FRAME appends are the brackets of R231 or R232, whichever the answers select; the
premise on the pins is what makes them start from the idle lines. -/
theorem writeFrameOnTheWire : Obligations.WriteFrameOnTheWire := by
  intro s hlc hses hkind hlen _
  have hexec := exec_writeFrame_of_frame hlc hses hkind hlen
  obtain ⟨⟨es, htrace, -⟩, -⟩ := exec_extends hexec
  refine ⟨_, es, hexec, htrace, fun hacked => ?_, fun k hk hacked hnack => ?_⟩
  · rw [run_writeFrameBody_acked hlen s.accept hacked] at htrace
    rw [← List.append_cancel_left htrace]
    exact wireItems_writeFrameEvents ..
  · rw [run_writeFrameBody_nacked hlen ⟨k, by omega⟩ hk s.accept hacked hnack] at htrace
    rw [← List.append_cancel_left htrace]
    exact wireItems_nackEvents s.fb ⟨k, by omega⟩ _

end Sys2Proof.Machine

/-! PROOF. Encoding and decoding (R102 to R106): the rows of the opcode map exclude each other, a row selects the words
its commands encode to and no others, and the illegal words are those whose fields fit no row. -/

namespace Sys2Proof

/-! ### The rows of the opcode map -/

/-- Every mask of R104 keeps the whole of `OPC`, so a row selects words of its own opcode only. -/
theorem opc_of_selects {r : Row} (hr : r ∈ opcodeRows) {w : Word} (h : r.selects w = true) :
    w.extractLsb' 28 4 = r.pattern.extractLsb' 28 4 := by
  have hmask : ∀ r ∈ opcodeRows, r.mask.extractLsb' 28 4 = BitVec.allOnes 4 := by decide
  have hw : w &&& r.mask = r.pattern := eq_of_beq h
  rw [← hw, BitVec.extractLsb'_and, hmask r hr, BitVec.and_allOnes]

/-- No two rows have one opcode, so at most one row selects a word. -/
theorem row_unique {r q : Row} (hr : r ∈ opcodeRows) (hq : q ∈ opcodeRows) {w : Word} (hrw : r.selects w = true)
    (hqw : q.selects w = true) : r = q := by
  have hdistinct : (opcodeRows.map fun r => r.pattern.extractLsb' 28 4).Nodup := by decide
  exact List.inj_on_of_nodup_map hdistinct hr hq ((opc_of_selects hr hrw).symm.trans (opc_of_selects hq hqw))

/-- What decodes was selected by a row, and the row read its operands. -/
theorem selects_of_decode {w : Word} {i : Instr} (h : decode w = .ok i) :
    ∃ r ∈ opcodeRows, r.selects w = true ∧ r.operands w = i := by
  unfold decode at h
  split at h
  · rename_i r hfind
    have hsel : r.selects w = true := List.find?_some (p := fun r : Row => r.selects w) hfind
    exact ⟨r, List.mem_of_find?_eq_some hfind, hsel, Except.ok.inj h⟩
  · cases h

/-- R104: a word decodes by the row that selects it. -/
theorem decode_of_selects {r : Row} (hr : r ∈ opcodeRows) {w : Word} (h : r.selects w = true) :
    decode w = .ok (r.operands w) := by
  unfold decode
  cases hfind : opcodeRows.find? (·.selects w) with
  | none => exact absurd h (List.find?_eq_none.mp hfind r hr)
  | some q =>
    have hsel : q.selects w = true := List.find?_some (p := fun r : Row => r.selects w) hfind
    rw [row_unique hr (List.mem_of_find?_eq_some hfind) h hsel]

/-- R105: the illegal words are those no row selects. -/
theorem decode_error_iff (w : Word) : (∃ e, decode w = .error e) ↔ ∀ r ∈ opcodeRows, ¬ r.selects w = true := by
  constructor
  · rintro ⟨e, he⟩ r hr hsel
    rw [decode_of_selects hr hsel] at he
    cases he
  · intro hnone
    cases hd : decode w with
    | error e => exact ⟨e, rfl⟩
    | ok i =>
      obtain ⟨r, hr, hsel, -⟩ := selects_of_decode hd
      exact absurd hsel (hnone r hr)

/-! ### Fields -/

/-- One bit of a word as a number. -/
theorem getLsbD_eq_decide (w : Word) (k : Nat) : w.getLsbD k = decide (w.toNat / 2 ^ k % 2 = 1) :=
  Nat.testBit_eq_decide_div_mod_eq

theorem field_eq_zero_iff (w : Word) (lo n : Nat) : w.extractLsb' lo n = 0 ↔ w.toNat / 2 ^ lo % 2 ^ n = 0 := by
  rw [← BitVec.toNat_inj, toNat_field, BitVec.ofNat_eq_ofNat, BitVec.toNat_zero]

theorem field_eq_field_iff (w p : Word) (lo n : Nat) :
    w.extractLsb' lo n = p.extractLsb' lo n ↔ w.toNat / 2 ^ lo % 2 ^ n = p.toNat / 2 ^ lo % 2 ^ n := by
  rw [← BitVec.toNat_inj, toNat_field, toNat_field]

theorem fitsVal_iff (v : Int) : fitsVal v = true ↔ -32768 ≤ v ∧ v ≤ 32767 := by simp [fitsVal]

/-- A 16-bit pattern taken as its two's-complement value is in the range of `VAL` (R103). -/
theorem fitsVal_toInt (x : BitVec 16) : fitsVal x.toInt = true :=
  (fitsVal_iff _).mpr ⟨BitVec.le_toInt x, Int.le_of_lt_add_one x.toInt_lt⟩

/-! ### A format's operand is read back from its word -/

theorem lineField_formatL (opc : BitVec 4) (l : Line) : lineField (formatL opc l) = l := by
  rw [lineField, getLsbD_eq_decide, toNat_formatL]
  cases l
  · exact if_neg (by rw [decide_eq_true_eq]; dsimp only; omega)
  · exact if_pos (by rw [decide_eq_true_eq]; dsimp only; omega)

theorem delayField_formatK (opc : BitVec 4) (k : DelayKind) : delayField (formatK opc k) = k := by
  rw [delayField, getLsbD_eq_decide, toNat_formatK]
  cases k
  · exact if_neg (by rw [decide_eq_true_eq]; dsimp only; omega)
  · exact if_pos (by rw [decide_eq_true_eq]; dsimp only; omega)

theorem byteField_formatB (opc : BitVec 4) (b : Byte) : byteField (formatB opc b) = b := by
  have hb := b.isLt
  rw [byteField, ← BitVec.toNat_inj, toNat_field, toNat_formatB]
  omega

theorem valField_formatV (opc : BitVec 4) {v : Int} (h : fitsVal v = true) : valField (formatV opc v) = v := by
  have hword : (formatV opc v).extractLsb' 0 16 = BitVec.ofInt 16 v := by
    have hv := (BitVec.ofInt 16 v).isLt
    rw [← BitVec.toNat_inj, toNat_field, toNat_formatV]
    omega
  obtain ⟨hlo, hhi⟩ := (fitsVal_iff v).mp h
  rw [valField, hword, BitVec.toInt_ofInt_eq_self (by decide) (by simpa using hlo) (by omega)]

/-! ### What a row selects, as the words its format writes -/

/-- Format L copies bit 24 of the word its operand was read from. -/
theorem toNat_formatL_lineField (opc : BitVec 4) (w : Word) :
    (formatL opc (lineField w)).toNat = opc.toNat * 2 ^ 28 + w.toNat / 2 ^ 24 % 2 * 2 ^ 24 := by
  rw [toNat_formatL, lineField, getLsbD_eq_decide]
  obtain h | h := Nat.mod_two_eq_zero_or_one (w.toNat / 2 ^ 24) <;> rw [h] <;> rfl

/-- Format K copies bit 0. -/
theorem toNat_formatK_delayField (opc : BitVec 4) (w : Word) :
    (formatK opc (delayField w)).toNat = opc.toNat * 2 ^ 28 + w.toNat % 2 := by
  rw [toNat_formatK, delayField, getLsbD_eq_decide, pow_zero, Nat.div_one]
  obtain h | h := Nat.mod_two_eq_zero_or_one w.toNat <;> rw [h] <;> rfl

section Words

variable {p : Word} (hp : p.toNat % 2 ^ 28 = 0) (f : Word → Instr) (w : Word)
include hp

theorem selects_iff_formatL :
    (Row.mk p 0xFEFFFFFF f).selects w = true ↔ formatL (p.extractLsb' 28 4) (lineField w) = w := by
  refine (Bool.eq_iff_iff.mp (selects_formatL p w f (by omega))).trans ?_
  rw [decide_eq_true_eq, ← BitVec.toNat_inj, toNat_formatL_lineField, toNat_field]
  omega

theorem selects_iff_formatK :
    (Row.mk p 0xFFFFFFFE f).selects w = true ↔ formatK (p.extractLsb' 28 4) (delayField w) = w := by
  refine (Bool.eq_iff_iff.mp (selects_formatK p w f (by omega))).trans ?_
  rw [decide_eq_true_eq, ← BitVec.toNat_inj, toNat_formatK_delayField, toNat_field]
  omega

theorem selects_iff_formatB :
    (Row.mk p 0xFFFFFF00 f).selects w = true ↔ formatB (p.extractLsb' 28 4) (byteField w) = w := by
  refine (Bool.eq_iff_iff.mp (selects_formatB p w f (by omega))).trans ?_
  rw [decide_eq_true_eq, ← BitVec.toNat_inj, toNat_formatB, byteField, toNat_field, toNat_field]
  omega

theorem selects_iff_formatV :
    (Row.mk p 0xFFFF0000 f).selects w = true ↔ formatV (p.extractLsb' 28 4) (valField w) = w := by
  refine (Bool.eq_iff_iff.mp (selects_formatV p w f (by omega))).trans ?_
  rw [decide_eq_true_eq, ← BitVec.toNat_inj, toNat_formatV, valField, BitVec.ofInt_toInt, toNat_field, toNat_field]
  omega

theorem selects_iff_formatN : (Row.mk p 0xFFFFFFFF f).selects w = true ↔ formatN (p.extractLsb' 28 4) = w := by
  refine (Bool.eq_iff_iff.mp (selects_formatN p w f)).trans ?_
  rw [decide_eq_true_eq, ← BitVec.toNat_inj, toNat_formatN, toNat_field]
  omega

end Words

/-- R102, R104: a row selects a word exactly when the word is the one its command encodes to. -/
theorem selects_iff_encode (w : Word) : ∀ r ∈ opcodeRows, r.selects w = true ↔ encode (r.operands w) = w := by
  simp (disch := decide) only [opcodeRows, List.forall_mem_cons, selects_iff_formatL, selects_iff_formatK,
    selects_iff_formatB, selects_iff_formatV, selects_iff_formatN, encode]
  simp

/-- The operands a row reads are within their ranges (R103). -/
theorem operands_wellFormed (w : Word) : ∀ r ∈ opcodeRows, (r.operands w).wellFormed = true := by
  have hval : fitsVal (valField w) = true := fitsVal_toInt _
  simp [opcodeRows, Instr.wellFormed, hval]

/-- R103: a row reads back every operand its format can hold. -/
theorem operands_encode {i : Instr} (h : i.wellFormed = true) : ∃ r ∈ opcodeRows, r.operands (encode i) = i := by
  have row (k : Fin 14) : opcodeRows[k] ∈ opcodeRows := List.getElem_mem _
  cases i with
  | release l => exact ⟨_, row 0, congrArg _ (lineField_formatL _ l)⟩
  | pull l => exact ⟨_, row 1, congrArg _ (lineField_formatL _ l)⟩
  | read l => exact ⟨_, row 2, congrArg _ (lineField_formatL _ l)⟩
  | delay k => exact ⟨_, row 3, congrArg _ (delayField_formatK _ k)⟩
  | validate => exact ⟨_, row 4, rfl⟩
  | start => exact ⟨_, row 5, rfl⟩
  | stop => exact ⟨_, row 6, rfl⟩
  | writeByte b => exact ⟨_, row 7, congrArg _ (byteField_formatB _ b)⟩
  | sendCommand b => exact ⟨_, row 8, congrArg _ (byteField_formatB _ b)⟩
  | encodeNumeric v => exact ⟨_, row 9, congrArg _ (valField_formatV _ h)⟩
  | encodeError => exact ⟨_, row 10, rfl⟩
  | writeFrame => exact ⟨_, row 11, rfl⟩
  | init => exact ⟨_, row 12, rfl⟩
  | shutdown => exact ⟨_, row 13, rfl⟩

/-! ### Decoding inverts encoding -/

/-- Settles O1: the row that reads a command back from its word also selects that word. -/
theorem decodeEncodeRoundTrip : Obligations.DecodeEncodeRoundTrip := by
  intro i hi
  obtain ⟨r, hr, hop⟩ := operands_encode hi
  have hsel : r.selects (encode i) = true := (selects_iff_encode _ r hr).mpr (by rw [hop])
  rw [decode_of_selects hr hsel, hop]

/-- Settles O2: the row that selected the word selects only words its commands encode to. -/
theorem encodeDecodeRoundTrip : Obligations.EncodeDecodeRoundTrip := by
  intro w i h
  obtain ⟨r, hr, hsel, rfl⟩ := selects_of_decode h
  exact ⟨(selects_iff_encode w r hr).mp hsel, operands_wellFormed w r hr⟩

/-! ### What a row selects, by the fields of the word -/

/-- The upper half of the word holds the opcode, and `RSV1`, `RSV2` and `L` are 0 (R101). -/
def OnlyOpc (opc : BitVec 4) (w : Word) : Prop :=
  w.extractLsb' 28 4 = opc ∧ w.extractLsb' 25 3 = 0 ∧ w.extractLsb' 16 8 = 0 ∧ w.getLsbD 24 = false

section Fields

variable {p : Word} (hp : p.toNat % 2 ^ 28 = 0) (f : Word → Instr) (w : Word)
include hp

theorem onlyOpc_iff : OnlyOpc (p.extractLsb' 28 4) w ↔ w.toNat / 2 ^ 16 = p.toNat / 2 ^ 16 := by
  simp only [OnlyOpc, field_eq_zero_iff, field_eq_field_iff, getLsbD_eq_decide, decide_eq_false_iff_not]
  omega

/-- Format L leaves both values of `L` to the operand. -/
theorem selects_iff_fieldsL : (Row.mk p 0xFEFFFFFF f).selects w = true ↔
    w.extractLsb' 28 4 = p.extractLsb' 28 4 ∧ w.extractLsb' 25 3 = 0 ∧ w.extractLsb' 16 8 = 0 ∧
      w.extractLsb' 0 16 = 0 := by
  refine (Bool.eq_iff_iff.mp (selects_formatL p w f (by omega))).trans ?_
  simp only [decide_eq_true_eq, field_eq_zero_iff, field_eq_field_iff]
  omega

theorem selects_iff_fieldsK : (Row.mk p 0xFFFFFFFE f).selects w = true ↔
    OnlyOpc (p.extractLsb' 28 4) w ∧ w.extractLsb' 1 15 = 0 := by
  refine (Bool.eq_iff_iff.mp (selects_formatK p w f (by omega))).trans ?_
  rw [decide_eq_true_eq, onlyOpc_iff hp, field_eq_zero_iff]
  omega

theorem selects_iff_fieldsB : (Row.mk p 0xFFFFFF00 f).selects w = true ↔
    OnlyOpc (p.extractLsb' 28 4) w ∧ w.extractLsb' 8 8 = 0 := by
  refine (Bool.eq_iff_iff.mp (selects_formatB p w f (by omega))).trans ?_
  rw [decide_eq_true_eq, onlyOpc_iff hp, field_eq_zero_iff]
  omega

theorem selects_iff_fieldsN : (Row.mk p 0xFFFFFFFF f).selects w = true ↔
    OnlyOpc (p.extractLsb' 28 4) w ∧ w.extractLsb' 0 16 = 0 := by
  refine (Bool.eq_iff_iff.mp (selects_formatN p w f)).trans ?_
  rw [decide_eq_true_eq, onlyOpc_iff hp, field_eq_zero_iff]
  omega

theorem selects_iff_fieldsV : (Row.mk p 0xFFFF0000 f).selects w = true ↔ OnlyOpc (p.extractLsb' 28 4) w := by
  refine (Bool.eq_iff_iff.mp (selects_formatV p w f (by omega))).trans ?_
  rw [decide_eq_true_eq, onlyOpc_iff hp]
  rfl

end Fields

/-- Settles O3: no row selects the word, and a row selects by the fields of its format; then one opcode at a time. -/
theorem illegalWordsAreThoseListed : Obligations.IllegalWordsAreThoseListed := by
  intro w
  simp (disch := decide) only [decode_error_iff, opcodeRows, List.forall_mem_cons, selects_iff_fieldsL,
    selects_iff_fieldsK, selects_iff_fieldsB, selects_iff_fieldsV, selects_iff_fieldsN, OnlyOpc]
  generalize w.extractLsb' 28 4 = opc
  obtain ⟨n, hn⟩ := opc
  interval_cases n <;> simp [imp_iff_not_or, or_assoc]

/-- Settles O4, by computing the fourteen rows on each word. -/
theorem specEncodingExamples : Obligations.SpecEncodingExamples := by
  unfold Obligations.SpecEncodingExamples
  decide

end Sys2Proof

/-! PROOF. The digit table and the frames of shown values (R45, R120, R202): a frame of digits tells the sign and the
three digits apart. -/

namespace Sys2Proof

/-! ### The digit table -/

/-- The patterns in the order of the digits, as R120 lists them. -/
theorem DigTable.pattern_eq_get (t : DigTable) (d : Fin 10) :
    t.pattern d = [0x3F, t.d1, 0x5B, t.d3, t.d4, 0x6D, t.d6, t.d7, t.d8, t.d9].get d := by
  fin_cases d <;> rfl

theorem DigTable.pattern_inj (t : DigTable) {d e : Fin 10} (h : t.pattern d = t.pattern e) : d = e := by
  rw [DigTable.pattern_eq_get, DigTable.pattern_eq_get] at h
  exact t.distinct.get_inj_iff.mp h

theorem DigTable.seg_inj (t : DigTable) {d e : Fin 10} (h : t.seg d = t.seg e) : d = e :=
  t.pattern_inj ((BitVec.append_right_inj 0#1).mp h)

/-- The decimal point is bit 7, which no pattern uses (R45, R123). -/
theorem DigTable.seg_or_segDp (t : DigTable) (d : Fin 10) : t.seg d ||| segDp = 1#1 ++ t.pattern d := by
  have hdp : segDp = 1#1 ++ 0#7 := rfl
  rw [hdp, DigTable.seg, BitVec.or_append, BitVec.or_zero, BitVec.zero_or]

theorem DigTable.seg_or_segDp_inj (t : DigTable) {d e : Fin 10} (h : t.seg d ||| segDp = t.seg e ||| segDp) :
    d = e := by
  rw [DigTable.seg_or_segDp, DigTable.seg_or_segDp] at h
  exact t.pattern_inj ((BitVec.append_right_inj 1#1).mp h)

end Sys2Proof

namespace Sys2Proof.Machine

/-! ### Frames of shown values -/

theorem signByte_eq_segMinus_iff (v : Int) : signByte v = segMinus ↔ v < 0 := by
  unfold signByte
  split
  · exact iff_of_true rfl ‹_›
  · exact iff_of_false (by decide) ‹_›

theorem signByte_inj {v w : Int} (h : signByte v = signByte w) : v < 0 ↔ w < 0 := by
  rw [← signByte_eq_segMinus_iff, h, signByte_eq_segMinus_iff]

theorem toDigit_inj {m n : Nat} : toDigit m = toDigit n ↔ m % 10 = n % 10 := Fin.mk_eq_mk

/-- R200: up to 999 the hundreds are one digit. -/
theorem numericFrame_of_shown (dig : DigTable) {v : Int} (h : v.natAbs ≤ 999) :
    numericFrame dig v = (digitFrame dig v v.natAbs, .numeric) :=
  if_neg (by omega)

/-- A frame of digits tells the sign and the three digits, and so the value (R202). -/
theorem digitFrame_inj (dig : DigTable) {v w : Int} (hv : v.natAbs ≤ 999) (hw : w.natAbs ≤ 999)
    (h : digitFrame dig v v.natAbs = digitFrame dig w w.natAbs) : v = w := by
  obtain ⟨-, hsign, hhundreds, htens, hunits⟩ := Frame.mk.inj h
  have hsign := signByte_inj hsign
  have hhundreds := toDigit_inj.mp (dig.seg_inj hhundreds)
  have htens := toDigit_inj.mp (dig.seg_or_segDp_inj htens)
  have hunits := toDigit_inj.mp (dig.seg_inj hunits)
  omega

/-- Settles O38: both frames are frames of digits. -/
theorem numericFramesTellValuesApart : Obligations.NumericFramesTellValuesApart := by
  intro v w s t u hv hw ht hu h
  cases ht
  cases hu
  have hframe : (numericFrame Config.dig v).1 = (numericFrame Config.dig w).1 := h
  rw [numericFrame_of_shown _ hv, numericFrame_of_shown _ hw] at hframe
  exact digitFrame_inj _ hv hw hframe

end Sys2Proof.Machine

/-! PROOF. What the assembler accepts (R107, R108), and what an illegal word does (R105, R272). -/

namespace Sys2Proof.Machine

/-! ### Assembled lines (R107, R108) -/

/-- R107: an operand of ENCODE_NUMERIC that the assembler takes is in range, in each of its three forms. -/
theorem fitsVal_of_parseVal {cs : List Char} {v : Int} (h : parseVal cs = some v) : fitsVal v = true := by
  unfold parseVal at h
  split at h <;> obtain ⟨n, -, hn⟩ := Option.bind_eq_some_iff.mp h <;> split at hn <;> cases hn
  · exact (fitsVal_iff _).mpr (by omega)
  · exact fitsVal_toInt _
  · exact (fitsVal_iff _).mpr (by omega)

theorem plainMnemonics_wellFormed : ∀ e ∈ plainMnemonics, ∀ i ∈ e.2, i.wellFormed = true := by decide

/-- Commands built from an operand that parses are well formed if they are so for each value it may have. -/
theorem wellFormed_of_map {α : Type} {parse : List Char → Option α} {f : α → List Instr}
    (h : ∀ a x, parse a = some x → ∀ i ∈ f x, i.wellFormed = true) :
    ∀ a is, (parse a).map f = some is → ∀ i ∈ is, i.wellFormed = true := by
  intro a is his
  obtain ⟨x, hx, rfl⟩ := Option.map_eq_some_iff.mp his
  exact h a x hx

theorem operandMnemonics_wellFormed :
    ∀ e ∈ operandMnemonics, ∀ a is, e.2 a = some is → ∀ i ∈ is, i.wellFormed = true := by
  simp only [operandMnemonics, List.forall_mem_cons]
  refine ⟨?release, ?pull, ?read, ?delay, ?writeByte, ?sendCommand, ?encodeNumeric, ?showValue, ?setDio, by simp⟩
  case encodeNumeric =>
    exact wellFormed_of_map fun a v hv => List.forall_mem_singleton.mpr (fitsVal_of_parseVal hv)
  case showValue =>
    exact wellFormed_of_map fun a v hv =>
      List.forall_mem_cons.mpr ⟨fitsVal_of_parseVal hv, List.forall_mem_singleton.mpr rfl⟩
  case setDio =>
    refine wellFormed_of_map fun a b hb => ?_
    cases b <;> exact List.forall_mem_singleton.mpr rfl
  all_goals exact wellFormed_of_map fun a x hx => List.forall_mem_singleton.mpr rfl

theorem mem_of_lookup_eq_some {α β : Type} [BEq α] [LawfulBEq α] {l : List (α × β)} {k : α} {b : β}
    (h : l.lookup k = some b) : (k, b) ∈ l := by
  obtain ⟨l₁, l₂, rfl, -⟩ := List.lookup_eq_some_iff.mp h
  exact List.mem_append_right _ List.mem_cons_self

/-- Settles O6: a line's commands come from one of the two mnemonic tables. -/
theorem assembledLinesAreWellFormed : Obligations.AssembledLinesAreWellFormed := by
  intro cs is h
  unfold assembleLine at h
  split at h
  · cases h
    exact List.forall_mem_nil _
  · exact plainMnemonics_wellFormed _ (mem_of_lookup_eq_some h)
  · obtain ⟨f, hf, his⟩ := Option.bind_eq_some_iff.mp h
    exact operandMnemonics_wellFormed _ (mem_of_lookup_eq_some hf) _ _ his
  · cases h

/-! ### Illegal words -/

/-- Settles O5: the sequencer turns the word away. -/
theorem illegalWordWritesErrOnly : Obligations.IllegalWordWritesErrOnly := by
  intro s w e hrst hcur htodo hd
  exact finishTurn_illegal hrst hcur htodo hd

end Sys2Proof.Machine

/-! PROOF. The raw line commands RELEASE, PULL and DELAY (R140, R141, R143). -/

namespace Sys2Proof.Machine

/-- A command whose one check is READY and whose expansion is one action performs that action and ends. -/
theorem complete_issueWith_ready (u : Uop) {s : State} (hlc : s.lc = .ready) :
    (issueWith [.ready] (items [u]) s).complete =
      (u.perform { s with err := .ok, ustep := 0, todo := items [u] }).endCommand := by
  have hchecks : firstError [.ready] s = none := by
    simp [firstError, Check.passes, hlc]
  exact complete_issueWith_items _ [u] s hchecks

/-- A line that takes a direction leaves the other line's as it is (R31). -/
theorem State.setDir_eq (s : State) (l : Line) (d : Dir) :
    s.setDir l d =
      { s with
        dirDio := if l = .dio then d else s.dirDio
        dirClk := if l = .clk then d else s.dirClk } := by
  cases l <;> rfl

/-- Settles O22: past its check RELEASE is `REL(l)`, and its end. -/
theorem releaseResult : Obligations.ReleaseResult := by
  intro l s hlc
  rw [exec, execRelease, issueRelease, complete_issueWith_ready _ hlc, Uop.perform, State.rel, State.setDir_eq]
  rfl

/-- Settles O23: past its check PULL is `PUL(l)`, and its end. -/
theorem pullResult : Obligations.PullResult := by
  intro l s hlc
  rw [exec, execPull, issuePull, complete_issueWith_ready _ hlc, Uop.perform, State.pul, State.setDir_eq]
  rfl

/-- Settles O26: past its check DELAY is one event on the trace, and its end. -/
theorem delayResult : Obligations.DelayResult := by
  intro k s hlc
  exact congrArg Host.Outcome.next (complete_issueWith_ready (.dly k) hlc)

end Sys2Proof.Machine

/-! PROOF. The line validator VALIDATE (R160, R161). -/

namespace Sys2Proof.Machine

/-- What VALIDATE's expansion does: `VBODY`, then E_CONFIG if a sample read LOW, `ERR` staying as it was if none did
(R161). -/
theorem run_expansion_validate (n : Nat) (s : State) :
    run (expansion n .validate) s =
      { runUops vBody s with err := if s.answer 0 = true ∧ s.answer 1 = true then s.err else .config } := by
  rw [expansion, run_items_append, runUops_vBody]
  by_cases hhigh : s.answer 0 = true ∧ s.answer 1 = true
  · rw [run_guard_pass _ _ _ _ (by simpa [Cond.holds] using hhigh), if_pos hhigh]
    rfl
  · rw [run_guard_fail _ _ _ _ (by simpa [Cond.holds] using hhigh), if_neg hhigh]
    rfl

/-- VALIDATE past its checks runs its expansion (R161). -/
theorem exec_validate_of_ready {s : State} (hlc : s.lc = .ready) (hses : s.session = false) :
    exec .validate s =
      .next (run (expansion s.flen.toNat .validate)
        { s.accept with todo := expansion s.flen.toNat .validate }).endCommand := by
  have hchecks : firstError [.ready, .session false] s = none := by
    simp [firstError, Check.passes, hlc, hses]
  exact congrArg Host.Outcome.next (congrArg State.complete (issueWith_ok _ _ s hchecks))

/-- Settles O27: past its checks VALIDATE is `VBODY`, the report of its two samples, and its end. -/
theorem validateResult : Obligations.ValidateResult := by
  intro s hlc hses
  rw [exec_validate_of_ready hlc hses, run_expansion_validate, runUops_vBody]
  rfl

end Sys2Proof.Machine

/-! PROOF. START, STOP and SEND_COMMAND past their checks (R174, R175, R177). -/

namespace Sys2Proof.Machine

theorem firstError_ready_session {s : State} {b : Bool} (hlc : s.lc = .ready) (hses : s.session = b) :
    firstError [.ready, .session b] s = none := by
  simp [firstError, Check.passes, hlc, hses]

/-- Settles O28: past its checks START is `STARTB`, and its end. -/
theorem startResult : Obligations.StartResult := by
  intro s hlc hses
  rw [exec, execStart, issueStart, complete_issueWith_items _ _ s (firstError_ready_session hlc hses), runUops_startB]
  rfl

/-- Settles O29: past its check STOP is `STOPB`, and its end. -/
theorem stopResult : Obligations.StopResult := by
  intro s hlc
  have hchecks : firstError [.ready] s = none := by
    simp [firstError, Check.passes, hlc]
  rw [exec, execStop, issueStop, complete_issueWith_items _ _ s hchecks, runUops_stopB]
  rfl

/-- Settles O31: past its checks SEND_COMMAND is `SBODY`, and its end (R173). -/
theorem sendCommandResult : Obligations.SendCommandResult := by
  intro b s hlc hses
  rw [exec, execSendCommand, issueSendCommand,
    complete_issueWith_items _ _ s (firstError_ready_session hlc hses), runUops_sBody]
  rfl

end Sys2Proof.Machine

/-! PROOF. How many events of each kind the bodies append (R181): the counts add up over runs in sequence. -/

namespace Sys2Proof.Machine

/-- The counts of R181's table for a run of events, and its long delays: events, `Dly(H)`, samples, `Rel(CLK)`,
`Dly(S)`. -/
def tally (es : List Event) : Nat × Nat × Nat × Nat × Nat :=
  (es.length, es.count (.dly .half), es.countP Event.isSample, es.count (.rel .clk), es.count (.dly .settle))

theorem tally_append (es fs : List Event) : tally (es ++ fs) = tally es + tally fs := by
  simp [tally]

/-- Runs with equal counts in sequence multiply them. -/
theorem tally_flatMap {α : Type} {f : α → List Event} {m : Nat × Nat × Nat × Nat × Nat} (h : ∀ x, tally (f x) = m)
    (xs : List α) : tally (xs.flatMap f) = xs.length • m := by
  induction xs with
  | nil => rw [List.length_nil, zero_nsmul]; rfl
  | cons x xs ih => rw [List.flatMap_cons, tally_append, h, ih, List.length_cons, succ_nsmul']

theorem tally_startEvents : tally startEvents = (6, 2, 0, 1, 0) := rfl

theorem tally_stopEvents : tally stopEvents = (6, 3, 0, 1, 0) := rfl

theorem tally_bitEvents (bit : Bool) : tally (bitEvents bit) = (5, 2, 0, 1, 0) := by
  cases bit <;> rfl

/-- Eight data bits and the ACK phase (R172). -/
theorem tally_byteEvents (b : Byte) (a : Bool) : tally (byteEvents b a) = (46, 18, 1, 9, 0) := by
  rw [byteEvents, tally_append, tally_flatMap fun i => tally_bitEvents (b.getLsbD i)]
  rfl

theorem tally_commandEvents (c : Byte) (a : Bool) : tally (commandEvents c a) = (58, 23, 1, 11, 0) := by
  rw [commandEvents, tally_append, tally_append, tally_startEvents, tally_byteEvents, tally_stopEvents]
  rfl

/-- A run without long delays takes at least its half-periods (R311). -/
theorem minDurationNs_of_tally (t : Timing) {es : List Event} {n h m r : Nat} (htally : tally es = (n, h, m, r, 0)) :
    minDurationNs t es = h * t.tHalfNs := by
  simp only [tally, Prod.mk.injEq] at htally
  obtain ⟨-, hhalf, -, -, hsettle⟩ := htally
  rw [minDurationNs, hhalf, hsettle, Nat.zero_mul, Nat.add_zero]

theorem counts_of_tally {es : List Event} {n h m r d : Nat} (htally : tally es = (n, h, m, r, d)) :
    (es.length, es.count (.dly .half), es.countP Event.isSample, es.count (.rel .clk)) = (n, h, m, r) := by
  simp only [tally, Prod.mk.injEq] at htally
  obtain ⟨hlength, hhalf, hsamples, hclk, -⟩ := htally
  rw [hlength, hhalf, hsamples, hclk]

/-- Settles O34: each body appends the events written out for it, and their counts are those of its parts. -/
theorem bodyEventCounts : Obligations.BodyEventCounts := by
  intro s b
  have hbyte := tally_byteEvents b (s.answer 0)
  have hcommand := tally_commandEvents b (s.answer 0)
  refine ⟨startEvents, stopEvents, byteEvents b (s.answer 0), commandEvents b (s.answer 0), ?_,
    counts_of_tally tally_startEvents, ?_, counts_of_tally tally_stopEvents, ?_, counts_of_tally hbyte, ?_,
    counts_of_tally hcommand, minDurationNs_of_tally _ hbyte, minDurationNs_of_tally _ hcommand⟩
  · rw [runUops_startB]
  · rw [runUops_stopB]
  · rw [runUops_wBody]
  · rw [runUops_sBody]

end Sys2Proof.Machine

/-! PROOF. A half-period between two transitions of one line (R178, R179, R230). DIO changes only where a delay stands
before it, whatever came earlier; CLK is changed last by START and by a byte, and the run that follows each of them
waits before it changes CLK again. -/

namespace Sys2Proof.Machine

/-! ### Runs that keep transitions apart -/

/-- From any pins, with a transition of DIO allowed, and one of CLK if `clkFree`, the run keeps two transitions of one
line apart (R178(b)); after it a transition of DIO is allowed again, and one of CLK if `clkFree'`. The second half is
said by what may follow: every run that is in order from there, whatever the pins. -/
def KeepsApart (clkFree clkFree' : Bool) (es : List Event) : Prop :=
  ∀ (p : Pins) (rest : List Event), (∀ q, delaySeparated true clkFree' q rest = true) →
    delaySeparated true clkFree p (es ++ rest) = true

theorem KeepsApart.nil (c : Bool) : KeepsApart c c [] := fun p _ hrest => hrest p

theorem KeepsApart.append {c d e : Bool} {es fs : List Event} (hes : KeepsApart c d es) (hfs : KeepsApart d e fs) :
    KeepsApart c e (es ++ fs) := by
  intro p rest hrest
  rw [List.append_assoc]
  exact hes p _ fun q => hfs q rest hrest

theorem KeepsApart.flatMap {α : Type} {c : Bool} {f : α → List Event} (h : ∀ x, KeepsApart c c (f x)) (xs : List α) :
    KeepsApart c c (xs.flatMap f) := by
  induction xs with
  | nil => exact .nil c
  | cons x xs ih => exact (h x).append ih

theorem KeepsApart.delaySeparated {c : Bool} {es : List Event} (h : KeepsApart true c es) (p : Pins) :
    delaySeparated true true p es = true := by
  have hes := h p [] fun _ => rfl
  rwa [List.append_nil] at hes

/-! ### The bodies -/

theorem keepsApart_startEvents : KeepsApart true false startEvents := by
  rintro ⟨dio, clk⟩ rest hrest
  cases dio <;> cases clk <;> exact hrest _

/-- `STOPB` waits before it changes CLK, so a CLK that has just changed is no obstacle (R171). -/
theorem keepsApart_stopEvents (c : Bool) : KeepsApart c true stopEvents := by
  rintro ⟨dio, clk⟩ rest hrest
  cases dio <;> cases clk <;> exact hrest _

theorem keepsApart_bitEvents (bit : Bool) : KeepsApart false false (bitEvents bit) := by
  rintro ⟨dio, clk⟩ rest hrest
  cases bit <;> cases dio <;> cases clk <;> exact hrest _

theorem keepsApart_ackEvents (a : Bool) :
    KeepsApart false false [.rel .dio, .dly .half, .rel .clk, .dly .half, .smp .dio a, .pul .clk] := by
  rintro ⟨dio, clk⟩ rest hrest
  cases dio <;> cases clk <;> exact hrest _

theorem keepsApart_byteEvents (b : Byte) (a : Bool) : KeepsApart false false (byteEvents b a) :=
  (KeepsApart.flatMap (fun i => keepsApart_bitEvents (b.getLsbD i)) _).append (keepsApart_ackEvents a)

theorem keepsApart_bracketEvents (bs : List (Byte × Bool)) : KeepsApart true true (bracketEvents bs) := by
  have hbytes := KeepsApart.flatMap (fun b : Byte × Bool => keepsApart_byteEvents b.1 b.2) bs
  rw [bracketEvents]
  exact (keepsApart_startEvents.append hbytes).append (keepsApart_stopEvents false)

/-! ### Sessions -/

/-- The bytes with the levels their ACK samples will read, one answer for each byte in order (R36, R172). -/
def State.withAcks (s : State) (bs : List Byte) : List (Byte × Bool) := bs.zipIdx.map fun b => (b.1, s.answer b.2)

theorem State.withAcks_cons (s : State) (b : Byte) (bs : List Byte) :
    s.withAcks (b :: bs) = (b, s.answer 0) :: (runUops (wBody b) s).withAcks bs := by
  have hanswer : ∀ k, (runUops (wBody b) s).answer k = s.answer (k + 1) := by
    intro k
    rw [State.answer_of_drawn s _ 1 k (by rw [runUops_wBody]) (by rw [runUops_wBody]), Nat.add_comm]
  simp [State.withAcks, List.zipIdx_succ, hanswer]

/-- Bytes sent one after the other append their events, each with its own ACK (R172). -/
theorem runUops_wBodies_trace (bs : List Byte) (s : State) :
    (runUops (bs.flatMap wBody) s).trace = s.trace ++ (s.withAcks bs).flatMap fun b => byteEvents b.1 b.2 := by
  induction bs generalizing s with
  | nil => exact (List.append_nil _).symm
  | cons b bs ih =>
    have htrace : (runUops (wBody b) s).trace = s.trace ++ byteEvents b (s.answer 0) := by rw [runUops_wBody]
    rw [List.flatMap_cons, runUops_append, ih, htrace, State.withAcks_cons, List.flatMap_cons, List.append_assoc]

/-- START, bytes and STOP append a bracket (R127, R179). -/
theorem runUops_session_trace (bs : List Byte) (s : State) :
    (runUops (startB ++ bs.flatMap wBody ++ stopB) s).trace = s.trace ++ bracketEvents (s.withAcks bs) := by
  rw [runUops_append, runUops_append, runUops_stopB, runUops_wBodies_trace, runUops_startB, bracketEvents,
    List.append_assoc, List.append_assoc, List.append_assoc]
  rfl

/-- Settles O33: a session is a bracket, and STOP leaves both lines free to change in START. -/
theorem sessionDelaysAreSeparated : Obligations.SessionDelaysAreSeparated := by
  refine fun s => ⟨fun bs => ⟨_, runUops_session_trace bs s, ?_⟩, stopEvents ++ startEvents, ?_, ?_⟩
  · exact (keepsApart_bracketEvents _).delaySeparated s.pins
  · rw [runUops_append, runUops_startB, runUops_stopB, List.append_assoc]
  · exact ((keepsApart_stopEvents true).append keepsApart_startEvents).delaySeparated s.pins

/-! ### WRITE_FRAME -/

/-- The first `n` answers are all LOW, or one of them is the first that is HIGH. -/
theorem all_false_or_first_true (answer : Nat → Bool) (n : Nat) :
    (∀ k < n, answer k = false) ∨ ∃ k < n, (∀ j < k, answer j = false) ∧ answer k = true := by
  induction n with
  | zero => exact .inl fun k hk => absurd hk (Nat.not_lt_zero k)
  | succ n ih =>
    obtain hlow | ⟨k, hk, hfirst⟩ := ih
    · cases hn : answer n with
      | true => exact .inr ⟨n, Nat.lt_succ_self n, hlow, hn⟩
      | false => exact .inl (Nat.forall_lt_succ_right.mpr ⟨hlow, hn⟩)
    · exact .inr ⟨k, Nat.lt_succ_of_lt hk, hfirst⟩

/-- A WRITE_FRAME that gets past its checks and ends had a frame of the buffer's size (R70). -/
theorem flen_le_of_exec_writeFrame {s t : State} (hchecks : firstError (commandChecks .writeFrame) s = none)
    (h : exec .writeFrame s = .next t) : s.flen.toNat ≤ 5 := by
  by_contra hlong
  rw [commandChecks] at hchecks
  simp [exec, execWriteFrame, issueWriteFrame, hchecks, hlong] at h

/-- What WRITE_FRAME can append: nothing, if it is turned away (R272); all of its events, if every frame byte is
acknowledged (R231); or those up to a NACK and the STOP after it (R232). -/
theorem exec_writeFrame_trace {s t : State} (h : exec .writeFrame s = .next t) :
    t.trace = s.trace ∨
      (∃ a z, t.trace = s.trace ++ writeFrameEvents s.fb s.flen.toNat a z) ∨
      ∃ k a, t.trace = s.trace ++ nackEvents s.fb k a := by
  obtain ⟨e, rfl⟩ | ⟨hframe, -⟩ | ⟨-, hchecks, rfl⟩ := exec_cases h
  · exact .inl rfl
  · exact absurd hframe (by decide)
  · have hlen := flen_le_of_exec_writeFrame hchecks h
    rw [expansion]
    obtain hacked | ⟨k, hk, hacked, hnack⟩ := all_false_or_first_true (fun k => s.answer (k + 1)) s.flen.toNat
    · rw [run_writeFrameBody_acked hlen s.accept hacked]
      exact .inr (.inl ⟨_, _, rfl⟩)
    · rw [run_writeFrameBody_nacked hlen ⟨k, by omega⟩ hk s.accept hacked hnack]
      exact .inr (.inr ⟨_, _, rfl⟩)

theorem keepsApart_writeFrameEvents (f : Frame) (n : Nat) (a z : Bool) :
    KeepsApart true true (writeFrameEvents f n a z) := by
  rw [writeFrameEvents_eq_brackets]
  exact ((keepsApart_bracketEvents _).append (keepsApart_bracketEvents _)).append (keepsApart_bracketEvents _)

theorem keepsApart_nackEvents (f : Frame) (k : Fin 5) (a : Bool) : KeepsApart true true (nackEvents f k a) := by
  rw [nackEvents_eq_brackets]
  exact (keepsApart_bracketEvents _).append (keepsApart_bracketEvents _)

/-- Settles O45: whatever WRITE_FRAME appends is brackets in sequence, each of which frees both lines for the next. -/
theorem writeFrameDelaysAreSeparated : Obligations.WriteFrameDelaysAreSeparated := by
  intro s t h
  obtain htrace | ⟨a, z, htrace⟩ | ⟨k, a, htrace⟩ := exec_writeFrame_trace h
  · exact ⟨[], by rw [htrace, List.append_nil], rfl⟩
  · exact ⟨_, htrace, (keepsApart_writeFrameEvents _ _ a z).delaySeparated s.pins⟩
  · exact ⟨_, htrace, (keepsApart_nackEvents _ k a).delaySeparated s.pins⟩

end Sys2Proof.Machine

/-! PROOF. ENCODE_NUMERIC and ENCODE_ERROR (R199 to R202, R205): the state each ends in, the threshold of overflow, and
what the bytes of a frame of digits show. -/

namespace Sys2Proof

/-! ### Digit bytes without the decimal point -/

/-- Clearing bit 7 of a byte leaves its seven segments (R45). -/
theorem append_and_segmentMask (b : BitVec 1) (x : BitVec 7) : (b ++ x) &&& 0x7F = 0#1 ++ x := by
  have hmask : (0x7F : Byte) = 0#1 ++ BitVec.allOnes 7 := rfl
  rw [hmask, BitVec.and_append, BitVec.and_zero, BitVec.and_allOnes]

theorem getLsbD_seven_append (b : BitVec 1) (x : BitVec 7) : (b ++ x).getLsbD 7 = b.getLsbD 0 := BitVec.getLsbD_append

theorem DigTable.seg_and_segmentMask (t : DigTable) (d : Fin 10) : t.seg d &&& 0x7F = t.seg d :=
  append_and_segmentMask 0#1 (t.pattern d)

theorem DigTable.seg_or_segDp_and_segmentMask (t : DigTable) (d : Fin 10) : (t.seg d ||| segDp) &&& 0x7F = t.seg d := by
  rw [DigTable.seg_or_segDp, append_and_segmentMask, DigTable.seg]

theorem DigTable.seg_getLsbD_seven (t : DigTable) (d : Fin 10) : (t.seg d).getLsbD 7 = false :=
  getLsbD_seven_append 0#1 (t.pattern d)

theorem DigTable.seg_or_segDp_getLsbD_seven (t : DigTable) (d : Fin 10) : (t.seg d ||| segDp).getLsbD 7 = true := by
  rw [DigTable.seg_or_segDp]
  exact getLsbD_seven_append 1#1 (t.pattern d)

end Sys2Proof

namespace Sys2Proof.Machine

/-! ### The end of an encode command -/

/-- An encode command makes no check and has no micro-operation: it writes the frame and ends (R199). -/
theorem complete_setFrame_issueWith_nil (s : State) (f : Frame) (k : FrameKind) (n : BitVec 3) :
    ((issueWith [] [] s).setFrame f k n).complete =
      { s with fb := f, fkind := k, flen := n, err := .ok, cur := none, ustep := 0, todo := [] } := by
  rw [issueWith_ok [] [] s rfl]
  rfl

theorem exec_encodeNumeric (v : Int) (s : State) :
    exec (.encodeNumeric v) s =
      .next
        { s with
          fb := (numericFrame Config.dig v).1, fkind := (numericFrame Config.dig v).2, flen := 5
          err := .ok, cur := none, ustep := 0, todo := [] } :=
  congrArg Host.Outcome.next (complete_setFrame_issueWith_nil s _ _ 5)

/-- Settles O39: the frame is a constant. -/
theorem encodeErrorResult : Obligations.EncodeErrorResult := fun s =>
  congrArg Host.Outcome.next (complete_setFrame_issueWith_nil s errorFrame .error 4)

/-! ### The threshold (R201) -/

/-- R200: from 1000 on the hundreds exceed one digit. -/
theorem numericFrame_of_overflow (dig : DigTable) {v : Int} (h : 1000 ≤ v.natAbs) :
    numericFrame dig v = (overflowFrame v, .overflow) :=
  if_pos (by omega)

/-- R200, R201: what the encoder can build, and for which values. -/
theorem numericFrame_cases (dig : DigTable) (v : Int) :
    (v.natAbs < 1000 ∧ numericFrame dig v = (digitFrame dig v v.natAbs, .numeric)) ∨
      (1000 ≤ v.natAbs ∧ numericFrame dig v = (overflowFrame v, .overflow)) :=
  (Nat.lt_or_ge v.natAbs 1000).imp (fun h => ⟨h, numericFrame_of_shown dig (Nat.le_of_lt_succ h)⟩)
    fun h => ⟨h, numericFrame_of_overflow dig h⟩

theorem numericFrame_kind_eq_overflow_iff (dig : DigTable) (v : Int) :
    (numericFrame dig v).2 = .overflow ↔ 1000 ≤ v.natAbs := by
  obtain ⟨hlt, hframe⟩ | ⟨hge, hframe⟩ := numericFrame_cases dig v <;> rw [hframe]
  · exact iff_of_false nofun (Nat.not_le_of_lt hlt)
  · exact iff_of_true rfl hge

/-- Settles O37: the magnitude is a natural number, which no value wraps. -/
theorem overflowExactlyFromOneThousand : Obligations.OverflowExactlyFromOneThousand := by
  intro v s
  refine ⟨_, exec_encodeNumeric v s, (numericFrame_kind_eq_overflow_iff Config.dig v).trans ?_⟩
  omega

/-- Settles O35, on either side of the threshold. -/
theorem encodeNumericResult : Obligations.EncodeNumericResult := by
  intro v s
  rw [exec_encodeNumeric]
  obtain ⟨hlt, hframe⟩ | ⟨hge, hframe⟩ := numericFrame_cases Config.dig v <;> rw [hframe]
  · have hsmall := Nat.not_le_of_lt hlt
    rw [if_neg hsmall, if_neg hsmall, digitFrame, Nat.div_div_eq_div_mul]
    rfl
  · rw [if_pos hge, if_pos hge]
    rfl

/-! ### What a frame of digits shows (R202) -/

theorem toDigit_eq_of_mod {m : Nat} {d : Fin 10} (h : m % 10 = d.val) : toDigit m = d := Fin.ext h

/-- The frame of a magnitude of three digits has the byte of each in its place. -/
theorem digitFrame_of_digits (dig : DigTable) (v : Int) {m : Nat} {h n u : Fin 10}
    (hm : m = 100 * h.val + 10 * n.val + u.val) :
    digitFrame dig v m = ⟨addrCmd, signByte v, dig.seg h, dig.seg n ||| segDp, dig.seg u⟩ := by
  have hhundreds : toDigit (m / 10 / 10) = h := toDigit_eq_of_mod (by omega)
  have htens : toDigit (m / 10 % 10) = n := toDigit_eq_of_mod (by omega)
  have hunits : toDigit (m % 10) = u := toDigit_eq_of_mod (by omega)
  rw [digitFrame, hhundreds, htens, hunits]

theorem signByte_getLsbD_seven (v : Int) : (signByte v).getLsbD 7 = false := by
  unfold signByte
  split <;> rfl

/-- The sign byte is the value's, also on overflow (C1). -/
theorem numericFrame_signByte (dig : DigTable) (v : Int) : (numericFrame dig v).1.b1 = signByte v := by
  obtain ⟨-, hframe⟩ | ⟨-, hframe⟩ := numericFrame_cases dig v <;> rw [hframe] <;> rfl

/-- Settles O36: a shown value's bytes are its digits' patterns, with bit 7 set in the tens alone; an overflow's are the
glyphs. -/
theorem numericFrameShowsTheValue : Obligations.NumericFrameShowsTheValue := by
  refine ⟨fun v s _ _ => ⟨_, exec_encodeNumeric v s, (encodedFrame_numericFrame _ v).1, rfl, numericFrame_signByte _ v,
    ?shown, ?overflow⟩, fun d e h => Config.dig.seg_inj h⟩
  case shown =>
    intro hle
    rw [numericFrame_of_shown _ hle]
    refine ⟨rfl, ?digits, DigTable.seg_or_segDp_getLsbD_seven _ _, signByte_getLsbD_seven v,
      DigTable.seg_getLsbD_seven _ _, DigTable.seg_getLsbD_seven _ _⟩
    intro h n u hm
    rw [digitFrame_of_digits _ v hm]
    exact ⟨DigTable.seg_and_segmentMask _ h, DigTable.seg_or_segDp_and_segmentMask _ n, DigTable.seg_and_segmentMask _ u⟩
  case overflow =>
    intro hge
    rw [numericFrame_of_overflow _ hge]
    exact ⟨rfl, rfl, rfl, rfl⟩

end Sys2Proof.Machine

/-! PROOF. The ends of WRITE_FRAME, acknowledged and not (R230 to R232), and how many events it appends (R233). -/

namespace Sys2Proof.Machine

/-! ### The next state -/

/-- Settles O40: past its checks the expansion of R230 runs through, and the command ends with the `ERR` of its
acceptance. -/
theorem writeFrameAcked : Obligations.WriteFrameAcked := by
  intro s hlc hses hkind hlen hacked
  rw [exec_writeFrame_of_frame hlc hses hkind hlen, run_writeFrameBody_acked hlen s.accept hacked]
  rfl

/-- Settles O41: past its checks the expansion of R230 runs up to byte `k` and takes the path of a NACK. -/
theorem writeFrameNacked : Obligations.WriteFrameNacked := by
  intro s k hlc hses hkind hlen hk hacked hnack
  rw [exec_writeFrame_of_frame hlc hses hkind hlen, run_writeFrameBody_nacked hlen k hk s.accept hacked hnack]
  rfl

/-! ### Event counts -/

/-- Each acknowledged byte of the burst counts as one byte (R172). -/
theorem tally_burstEvents (f : Frame) {n : Nat} (hn : n ≤ 5) :
    tally (burstEvents f n) = (46 * n, 18 * n, n, 9 * n, 0) := by
  rw [burstEvents, tally_flatMap fun k => tally_byteEvents (f.get k) false, length_frameIndices n hn]
  simp [Nat.mul_comm]

/-- Two commands, and a bracket of `n` bytes between them (R233). -/
theorem tally_writeFrameEvents (f : Frame) {n : Nat} (hn : n ≤ 5) (a z : Bool) :
    tally (writeFrameEvents f n a z) = (128 + 46 * n, 51 + 18 * n, n + 2, 24 + 9 * n, 0) := by
  simp only [writeFrameEvents, tally_append, tally_commandEvents, tally_startEvents, tally_burstEvents f hn,
    tally_stopEvents, Prod.mk_add_mk, Prod.mk.injEq, and_true]
  omega

/-- A command, and a bracket of `k + 1` bytes (R233). -/
theorem tally_nackEvents (f : Frame) (k : Fin 5) (a : Bool) :
    tally (nackEvents f k a) = (116 + 46 * k.val, 46 + 18 * k.val, k.val + 2, 22 + 9 * k.val, 0) := by
  simp only [nackEvents, tally_append, tally_commandEvents, tally_startEvents, tally_burstEvents f k.isLt.le,
    tally_byteEvents, tally_stopEvents, Prod.mk_add_mk, Prod.mk.injEq, and_true]
  omega

/-- Settles O43: the events of either end are written out in O40 and O41, and their counts are those of their parts. -/
theorem writeFrameEventCounts : Obligations.WriteFrameEventCounts := by
  intro s hlc hses hkind hlen
  refine ⟨fun hacked => ?_, fun k hk hacked hnack => ?_⟩
  · have hcounts := tally_writeFrameEvents s.fb hlen (s.answer 0) (s.answer (s.flen.toNat + 1))
    simp only [tally, Prod.mk.injEq] at hcounts
    obtain ⟨hlength, hhalf, hsamples, -, -⟩ := hcounts
    exact ⟨_, _, writeFrameAcked s hlc hses hkind hlen hacked, rfl, hlength, hhalf, hsamples⟩
  · have hk5 : k < 5 := by omega
    have hlength := congrArg Prod.fst (tally_nackEvents s.fb ⟨k, hk5⟩ (s.answer 0))
    exact ⟨_, _, writeFrameNacked s ⟨k, hk5⟩ hlc hses hkind hlen hk hacked hnack, rfl, hlength⟩

end Sys2Proof.Machine

/-! PROOF. The lifecycle controller's INIT and SHUTDOWN past their check (R250, R255). -/

namespace Sys2Proof.Machine

/-! ### INIT -/

/-- A backend that does not come up ends INIT at once (R250). -/
theorem run_initBody_down (s : State) (h : s.initAnswer = false) :
    run initBody s = { s.bInit with lc := .failed, err := .init } := by
  rw [initBody, List.append_assoc, List.singleton_append, run_backendInit_down _ _ _ h]
  rfl

/-- A backend that comes up is followed by `VBODY` and the test of its two samples (R250). -/
theorem run_initBody_up (s : State) (h : s.initAnswer = true) :
    run initBody s =
      run [.guard .linesHigh [.bDeinit, .setLc .failed, .setErr .config], .op (.setLc .ready)]
        (runUops vBody s.bInit) := by
  rw [initBody, List.append_assoc, List.singleton_append, run_backendInit_up _ _ _ h, run_items_append]

/-- What a backend that comes up and `VBODY` do together: six events, and one answer of the backend and two samples
drawn (R160, R250). -/
theorem runUops_vBody_bInit (s : State) (h : s.initAnswer = true) :
    runUops vBody s.bInit =
      { s with
        dirDio := .released, dirClk := .released
        cfgDioLow := !s.bInit.answer 0, cfgClkLow := !s.bInit.answer 1
        inits := s.inits.drop 1, samples := s.samples.drop 2, draws := s.draws + 3
        trace := s.trace ++ .bInit true :: validateEvents (s.bInit.answer 0) (s.bInit.answer 1)
        ustep := s.ustep + 6 } := by
  rw [runUops_vBody]
  simp [State.bInit, State.emit, h]

/-- After `VBODY` the lines count as HIGH exactly if both its samples read HIGH (R160). -/
theorem linesHigh_runUops_vBody (s : State) :
    Cond.linesHigh.holds (runUops vBody s) = (s.answer 0 && s.answer 1) := by
  simp [Cond.holds, runUops_vBody]

theorem run_initBody_high (s : State) (h : s.initAnswer = true)
    (hhigh : s.bInit.answer 0 = true ∧ s.bInit.answer 1 = true) :
    run initBody s = { runUops vBody s.bInit with lc := .ready } := by
  rw [run_initBody_up s h, run_guard_pass _ _ _ _ (by simpa [linesHigh_runUops_vBody] using hhigh)]
  rfl

theorem run_initBody_low (s : State) (h : s.initAnswer = true)
    (hlow : ¬(s.bInit.answer 0 = true ∧ s.bInit.answer 1 = true)) :
    run initBody s = { (runUops vBody s.bInit).emit .bDeinit with lc := .failed, err := .config } := by
  rw [run_initBody_up s h, run_guard_fail _ _ _ _ (by simpa [linesHigh_runUops_vBody] using hlow)]
  rfl

/-- Settles O46: past its check INIT runs its expansion on one of three paths, by the backend's answer and the levels of
its two samples, which are the answers that follow it. -/
theorem initResult : Obligations.InitResult := by
  intro s hlc
  rw [exec_init_of_uninit s hlc]
  set u : State := { s.accept with todo := initBody }
  refine ⟨fun hdown => ?down, fun d c hup hd hc => ?up⟩
  case down =>
    have hinit : u.initAnswer = false := hdown
    rw [run_initBody_down u hinit, State.bInit, hinit, List.drop_one]
    rfl
  case up =>
    have hinit : u.initAnswer = true := hup
    have hdio : u.bInit.answer 0 = d := hd.symm
    have hclk : u.bInit.answer 1 = c := hc.symm
    have hrun := runUops_vBody_bInit u hinit
    rw [hdio, hclk] at hrun
    by_cases hhigh : d = true ∧ c = true
    · rw [run_initBody_high u hinit (by rwa [hdio, hclk]), hrun]
      simp only [if_pos hhigh]
      rfl
    · rw [run_initBody_low u hinit (by rwa [hdio, hclk]), hrun]
      simp only [if_neg hhigh, ← List.append_assoc]
      rfl

/-! ### SHUTDOWN -/

/-- Settles O48: past its check SHUTDOWN is its five actions, of which three append an event, and its end. -/
theorem shutdownResult : Obligations.ShutdownResult := by
  intro s hlc
  have hchecks : firstError [.lifecycle .ready] s = none := by
    simp [firstError, Check.passes, hlc]
  rw [exec, execShutdown, issueShutdown, shutdownBody, complete_issueWith_items _ _ s hchecks]
  simp [Uop.perform, State.rel, State.setDir, State.emit, State.endCommand]

end Sys2Proof.Machine

/-! PROOF. Pre-execution errors: the checks of R275, what a command that fails one of them does (R272), and that no
command reads what `ERR` held before it (R273). -/

namespace Sys2Proof.Machine

/-! ### A failed check -/

section Checks

variable (cs : List Check) (s : State)

theorem firstError_ready :
    firstError (.ready :: cs) s = if s.lc ≠ .ready then some .notReady else firstError cs s := by
  by_cases h : s.lc = .ready <;> simp [firstError, Check.passes, Check.code, h]

theorem firstError_lifecycle (c : Lifecycle) :
    firstError (.lifecycle c :: cs) s = if s.lc = c then firstError cs s else some .lifecycle := by
  by_cases h : s.lc = c <;> simp [firstError, Check.passes, Check.code, h]

theorem firstError_session (b : Bool) :
    firstError (.session b :: cs) s = if s.session = !b then some .session else firstError cs s := by
  cases b <;> cases h : s.session <;> simp [firstError, Check.passes, Check.code, h]

theorem firstError_framePresent :
    firstError (.framePresent :: cs) s = if s.fkind = .none then some .noFrame else firstError cs s := by
  by_cases h : s.fkind = .none <;> simp [firstError, Check.passes, Check.code, h]

theorem firstError_released (l : Line) :
    firstError (.released l :: cs) s = if s.dir l = .pulled then some .readPulled else firstError cs s := by
  cases h : s.dir l <;> simp [firstError, Check.passes, Check.code, h]

end Checks

/-- R275's table is the list of the command's checks: the code raised is that of the first one that fails. -/
theorem preError_eq_firstError (i : Instr) (s : State) : preError i s = firstError (commandChecks i) s := by
  cases i
  case encodeNumeric v => rfl
  case encodeError => rfl
  case init => exact (firstError_lifecycle [] s .uninit).symm
  case shutdown => exact (firstError_lifecycle [] s .ready).symm
  case read l =>
    rw [commandChecks, firstError_ready, firstError_released]
    rfl
  case writeFrame =>
    rw [commandChecks, firstError_ready, firstError_session, firstError_framePresent]
    rfl
  case release l | pull l | delay k | stop =>
    rw [commandChecks, firstError_ready, ite_not]
    rfl
  all_goals
    rw [commandChecks, firstError_ready, firstError_session]
    rfl

/-- A command with a failing check ends at once, with the check's code in `ERR` and every other field as it was. -/
theorem exec_of_firstError {i : Instr} {s : State} {e : Err} (h : firstError (commandChecks i) s = some e) :
    exec i s = .next { s with err := e, cur := none, ustep := 0, todo := [] } := by
  cases i
  case encodeNumeric v => cases h
  case encodeError => cases h
  case writeFrame =>
    rw [commandChecks] at h
    rw [exec, execWriteFrame, issueWriteFrame, h]
    rfl
  all_goals exact congrArg Host.Outcome.next (complete_issueWith_error _ _ s e h)

/-- Settles O50: R275's table lists the checks the commands make, and a command that fails one ends with its code. -/
theorem preExecutionErrorsWriteErrOnly : Obligations.PreExecutionErrorsWriteErrOnly := by
  intro i s e h
  rw [preError_eq_firstError] at h
  exact exec_of_firstError h

/-! ### What `ERR` held before -/

section OldErr

variable (s : State) (e : Err)

/-- No check reads `ERR` (R275). -/
theorem firstError_err (cs : List Check) : firstError cs { s with err := e } = firstError cs s := by
  induction cs with
  | nil => rfl
  | cons c cs ih =>
    have hpasses : c.passes { s with err := e } = c.passes s := by
      cases c with
      | released l => cases l <;> rfl
      | ready | lifecycle _ | session _ | framePresent => rfl
    rw [firstError, firstError, hpasses, ih]

/-- Accepting a command overwrites `ERR` before anything reads it (R273). -/
theorem accept_err : State.accept { s with err := e } = s.accept := rfl

theorem issueWith_err (cs : List Check) (body : List Item) :
    issueWith cs body { s with err := e } = issueWith cs body s := by
  rw [issueWith, issueWith, firstError_err, accept_err]

theorem issueWriteFrame_err : issueWriteFrame { s with err := e } = issueWriteFrame s := by
  rw [issueWriteFrame, issueWriteFrame, firstError_err, accept_err]

theorem issue_err (i : Instr) : issue i { s with err := e } = issue i s := by
  cases i
  case writeFrame => exact issueWriteFrame_err s e
  case encodeNumeric v => rfl
  case encodeError => rfl
  all_goals exact congrArg Host.Outcome.next (issueWith_err s e _ _)

end OldErr

/-- Settles O51: taking up a command already overwrites `ERR`, and the rest of it starts from there. -/
theorem errIsNotSticky : Obligations.ErrIsNotSticky := by
  intro i s e
  rw [exec_eq_issue, exec_eq_issue, issue_err]

end Sys2Proof.Machine

/-! PROOF. The platform's RST (R300, R317): its two edges, and the host's CMD write while it is asserted. -/

namespace Sys2Proof.Machine

/-- The edge that asserts RST. -/
theorem rstTurn_assert (s : State) : rstTurn true s = s.resetBlock true := by
  simp [rstTurn]

/-- The edge that releases RST. -/
theorem rstTurn_release {s : State} (hrst : s.rst = true) : rstTurn false s = s.resetBlock false := by
  simp [rstTurn, hrst]

/-- A turn of the platform moves RST in the state that has the turn taken (R80, R300). -/
theorem step_of_rst {s : State} {level : Bool} {ts : List Turn} (h : s.turns = .rst level :: ts) :
    step s = .next (rstTurn level { s with turns := ts }) := step_of_turn h

/-- The block held in reset accepts no CMD write. -/
theorem writeCmd_of_rst {s : State} (w : Word) (hrst : s.rst = true) : writeCmd w s = s := by
  simp [writeCmd, hrst]

/-- Settles O21: both edges reset the block, and a block held in reset takes no CMD write. -/
theorem rstResetsTheBlock : Obligations.RstResetsTheBlock := by
  intro s ts
  refine ⟨fun hturns => ?_, fun hrst hturns => ?_, fun w hrst hturns => ?_⟩
  · rw [step_of_rst hturns, rstTurn_assert]
    rfl
  · rw [step_of_rst hturns, rstTurn_release (s := { s with turns := ts }) hrst]
    rfl
  · rw [step_of_cmdWrite hturns, writeCmd_of_rst (s := { s with turns := ts }) w hrst]

end Sys2Proof.Machine
